-- ==== Sys2Proof/Word.lean ====
section
/-! DEFINITION. The bit-vector types of the SEGCOMP engine (spec/00_scope.md R8): bytes, 32-bit register words and
64-bit Keccak lanes. -/

namespace Sys2Proof

/-- A byte is 8 bits (R8). -/
abbrev Byte := BitVec 8

/-- A register value is 32 bits wide (R23). -/
abbrev Word := BitVec 32

/-- A Keccak lane is one 64-bit word (R9, R44). -/
abbrev Lane := BitVec 64

end Sys2Proof
end

