-- ==== Sys2Proof/Config.lean ====
section
/-! DEFINITION. The fixed parameters of the block (spec/00_scope.md R6), the bounds of its one sizing parameter
MEM_BYTES (R7), and the free values that the spec leaves unspecified (spec/93_implementation_defined.md U1, U2, U3). -/

namespace Sys2Proof.Config

/-- ROUNDS (R6, R108). -/
def rounds : Nat := 24

/-- RATE in bytes (R6, R110). -/
def rateBytes : Nat := 136

/-- CAPACITY in bytes (R6, R110). -/
def capacityBytes : Nat := 64

/-- DIGEST_BYTES, the OAEP hLen (R6, R145). -/
def hLen : Nat := 32

/-- The smallest k that OAEP_DEC accepts, 2·hLen + 2 (R6, R151). -/
def oaepMinK : Nat := 66

/-- The value of the ID register (R6, R27). -/
def idValue : Word := 0x53484133#32

/-- The smallest legal MEM_BYTES (R7). -/
def memBytesMin : Nat := 1024

/-- The largest legal MEM_BYTES, 2^24 (R7). -/
def memBytesMax : Nat := 2 ^ 24

/-- The reference MEM_BYTES of spec/95_test_vectors.md (R7).  DESIGN CHOICE (log 1): only `State.reset` uses it; every
statement about a state takes the size from the state. -/
def memBytesReference : Nat := 4096

/-- ENGINE_BASE, the platform address of offset 0 (R7, D4): open, and no rule of the block depends on it (DESIGN CHOICE,
log 10). -/
opaque engineBase : Nat

/-- The n-th unspecified byte drawn: LMEM after a power-on reset (R221, U1) and the destination of a command that a soft
reset abandons (R222, U3).  A free value: it has no body (DESIGN CHOICE, log 5). -/
opaque freeByte : Nat → Byte

/-- The n-th unspecified word drawn: a host read, while BUSY = 1, of a location the command may write (R49, U2).
A free value: it has no body (DESIGN CHOICE, log 5). -/
opaque freeWord : Nat → Word

end Sys2Proof.Config
end

