-- ==== Sys2Proof/Syntax.lean ====
section
/-! DEFINITION. The ten commands of the engine, one constructor per row of spec/opcode_table.json
(spec/30_encoding.md R82).  A command word carries no operand fields (R81), so no constructor has an argument. -/

namespace Sys2Proof

/-- The commands, in the order of the opcode map (R82). -/
inductive Instr where
  /-- KECCAK_F, 0x01 (R120). -/
  | keccakF
  /-- SHA3_INIT, 0x02 (R121). -/
  | sha3Init
  /-- SHA3_ABSORB, 0x03 (R122). -/
  | sha3Absorb
  /-- SHA3_FINAL, 0x04 (R123). -/
  | sha3Final
  /-- SHA3_256, 0x05 (R124). -/
  | sha3Hash
  /-- MGF1, 0x10 (R142). -/
  | mgf1
  /-- OAEP_ENC, 0x20 (R150). -/
  | oaepEnc
  /-- OAEP_DEC, 0x21 (R151). -/
  | oaepDec
  /-- B64_ENC, 0x30 (R176). -/
  | b64Enc
  /-- B64_DEC, 0x31 (R177). -/
  | b64Dec
  deriving DecidableEq, Repr

end Sys2Proof
end

