-- ==== Sys2Proof/WellFormed.lean ====
section
/-! DEFINITION. What is well formed: a command (always: R81 gives it no operand that could be wrong), a raw command word
(spec/30_encoding.md R82, R83), and the block's size parameter (spec/00_scope.md R7). -/

namespace Sys2Proof

/-- A command has no operand fields (R81), so every command is well formed. -/
def Instr.wellFormed : Instr → Bool
  | .keccakF | .sha3Init | .sha3Absorb | .sha3Final | .sha3Hash => true
  | .mgf1 => true
  | .oaepEnc | .oaepDec => true
  | .b64Enc | .b64Dec => true

/-- The OP values that R82 assigns. -/
def assignedOps : List Byte :=
  [0x01#8, 0x02#8, 0x03#8, 0x04#8, 0x05#8, 0x10#8, 0x20#8, 0x21#8, 0x30#8, 0x31#8]

/-- RSV, bits 31:8 of a command word, is zero (R80). -/
def rsvClear (w : Word) : Bool := w.extractLsb' 8 24 == 0#24

/-- OP, bits 7:0 of a command word, is in the table of R82. -/
def opAssigned (w : Word) : Bool := assignedOps.contains (w.extractLsb' 0 8)

/-- A legal command word: RSV = 0 and OP assigned (R82).  Every other word is illegal (R83). -/
def commandWordLegal (w : Word) : Bool := rsvClear w && opAssigned w

/-- The constraint on MEM_BYTES: a multiple of 4 between 1024 and 2^24 (R7). -/
abbrev MemBytesOk (n : Nat) : Prop :=
  n % 4 = 0 ∧ Config.memBytesMin ≤ n ∧ n ≤ Config.memBytesMax

end Sys2Proof
end

