-- ==== Sys2Proof/Decode.lean ====
section
/-! DEFINITION. The command word CMD32 (spec/30_encoding.md R80 to R85): the decoder, total on every 32-bit word and
rejecting by name, and the encoder, written from the same opcode map (R82). -/

namespace Sys2Proof

/-- Why a word is illegal (R83). -/
inductive DecodeError where
  /-- RSV, bits 31:8, is not zero. -/
  | reservedBits
  /-- OP, bits 7:0, is not in the opcode map. -/
  | unassignedOp
  deriving DecidableEq, Repr

/-- The OP field, bits 7:0 (R80). -/
def opField (w : Word) : Byte := w.extractLsb' 0 8

/-- The RSV field, bits 31:8 (R80). -/
def rsvField (w : Word) : BitVec 24 := w.extractLsb' 8 24

/-- The command an OP value selects (R82). -/
def opcodeMap (op : Byte) : Option Instr :=
  match op.toNat with
  | 0x01 => some .keccakF
  | 0x02 => some .sha3Init
  | 0x03 => some .sha3Absorb
  | 0x04 => some .sha3Final
  | 0x05 => some .sha3Hash
  | 0x10 => some .mgf1
  | 0x20 => some .oaepEnc
  | 0x21 => some .oaepDec
  | 0x30 => some .b64Enc
  | 0x31 => some .b64Dec
  | _ => none

/-- A word selects a command iff RSV = 0 and OP is in the opcode map (R82); every other word is illegal (R83). -/
def decode (w : Word) : Except DecodeError Instr :=
  if rsvField w = 0#24 then
    match opcodeMap (opField w) with
    | some i => .ok i
    | none => .error .unassignedOp
  else .error .reservedBits

/-- The OP value of a command (R82). -/
def opcodeOf : Instr → Byte
  | .keccakF => 0x01#8
  | .sha3Init => 0x02#8
  | .sha3Absorb => 0x03#8
  | .sha3Final => 0x04#8
  | .sha3Hash => 0x05#8
  | .mgf1 => 0x10#8
  | .oaepEnc => 0x20#8
  | .oaepDec => 0x21#8
  | .b64Enc => 0x30#8
  | .b64Dec => 0x31#8

/-- The command word of a command: OP in bits 7:0, RSV = 0 above it (R80). -/
def encode (i : Instr) : Word := 0#24 ++ opcodeOf i

/-- The word CMD holds for a row of `nbits` bits whose bits are `w`, every bit above them zero. -/
def tableWord (nbits w : Nat) : Nat := w % 2 ^ nbits

/-- The command the decoder reads from the bits `w` of an opcode-table row.  CMD is 32 bits wide (R31, R85), so a longer
pattern selects nothing. -/
def decodeTableWord (nbits w : Nat) : Option Instr :=
  if tableWord nbits w < 2 ^ 32 then (decode (BitVec.ofNat 32 (tableWord nbits w))).toOption else none

end Sys2Proof
end

