-- ==== Sys2Proof/Machine/State.lean ====
section
/-! DEFINITION. The state of the engine (spec/10_state.md R20 to R50), its error codes and phases, the host's bus
transactions (spec/60_exceptions.md R210), and the state right after reset (R50, R221). -/

namespace Sys2Proof.Machine

/-- The error codes of STATUS.ERRCODE (R191). -/
inductive ErrCode where
  | ok | badCmd | seq | srcRange | dstRange | overlap | noSeed | msgTooLong | modTooSmall
  | labelMismatch | noSeparator | badSeparator | decodeFail | b64Len | b64Char | b64Pad
  deriving DecidableEq, Repr

/-- PHASE, the state of the streaming sponge (R46). -/
inductive Phase where
  | idle | absorb | finalDone
  deriving DecidableEq, Repr

/-- The 25 lanes of the Keccak state, lane (x, y) at index x + 5·y (R44, R100). -/
abbrev Lanes := Vector Lane 25

/-- A sponge context: the Keccak state A and the position POS in 0..135 (R44, R45, R111).  The architectural sponge is
one; each private context of R116 is another. -/
structure Sponge where
  a : Lanes
  pos : Fin 136
  deriving DecidableEq, Repr

/-- LMEM as (address, byte) pairs in canonical form (`Memory.wf`). -/
abbrev Memory := List Host.Cell

/-- The width of a host access (R61). -/
inductive AccessWidth where
  | w8 | w16 | w32 | w64
  deriving DecidableEq, Repr

/-- One access of the host (R86, R210), at a byte offset into the block. -/
inductive HostAccess where
  /-- `rd`: a read of `width` bits at `off`. -/
  | read (width : AccessWidth) (off : Word)
  /-- `wr`: a write of `width` bits at `off`; `v` is the data of a 32-bit write, and no other width has an effect. -/
  | write (width : AccessWidth) (off v : Word)
  /-- `poll`: repeat a 32-bit read of `off` until `(value & mask) = val`; one read a step. -/
  | poll (off mask val : Word)
  deriving DecidableEq, Repr

/-- What the bus answered the host's last access. -/
inductive Response where
  /-- No access answered yet. -/
  | none
  /-- A read returned this word. -/
  | data (v : Word)
  /-- A write was accepted by the bus; a dropped or ignored write is answered alike (R24, R26). -/
  | ok
  /-- The access was not admitted: a bus error, recorded as the host's fault (R61, R202). -/
  | busError
  deriving DecidableEq, Repr

/-- Which agent takes a step (R5, R210). -/
inductive Turn where
  /-- The host makes its next access. -/
  | host
  /-- The engine moves: its completion if BUSY = 1, nothing otherwise. -/
  | engine
  /-- The platform asserts a power-on reset (R220). -/
  | powerOn
  deriving DecidableEq, Repr

/-- Why the machine stops. -/
inductive Fault where
  /-- Raised by `State.memRead` and `State.memWrite` on a region outside LMEM, which R64 calls a bug of the model.  Safe:
  the machine stops.  No command reaches it. -/
  | lmemOutOfRange
  deriving DecidableEq, Repr

/-- Why an instruction has no outcome. -/
inductive Refusal where
  /-- Raised by `exec` for a command without a meaning.  Safe: the machine stops.  No arm raises it. -/
  | notModelled (mnemonic : String)
  deriving DecidableEq, Repr

/-- The state of the block (R20), then the environment it runs in. -/
structure State where
  /-- MEM_BYTES, the size of LMEM (R7); MEMSIZE reads it (R28).  No step changes it (DESIGN CHOICE, log 1). -/
  memBytes : Nat
  /-- CTRL bit 0 (R29). -/
  irqEn : Bool
  /-- CTRL bit 1 (R29). -/
  opaqueErr : Bool
  /-- STATUS bit 1 (R30). -/
  done : Bool
  /-- STATUS bit 2 (R30). -/
  err : Bool
  /-- STATUS bit 3 (R30). -/
  wbusy : Bool
  /-- STATUS bit 4 (R30, R41). -/
  seedValid : Bool
  /-- STATUS bits 15:8 (R30, R191). -/
  errCode : ErrCode
  /-- CMD (R31). -/
  cmd : Word
  /-- SRC_ADDR (R32). -/
  srcAddr : Word
  /-- SRC_LEN (R33). -/
  srcLen : Word
  /-- DST_ADDR (R34). -/
  dstAddr : Word
  /-- OUT_LEN (R35). -/
  outLen : Word
  /-- K_LEN (R36). -/
  kLen : Word
  /-- RESULT_LEN (R37). -/
  resultLen : Word
  /-- DIGEST0..7 (R39). -/
  digest : Vector Word 8
  /-- SEED0..7, the internal value (R40). -/
  seed : Vector Word 8
  /-- A and POS (R44, R45); STATE0..49 is a window onto A (R42), SPONGE shows POS (R38). -/
  sponge : Sponge
  /-- PHASE (R46); SPONGE shows it (R38). -/
  phase : Phase
  /-- *in_flight*, the command word being executed (R47).  It exists exactly while STATUS.BUSY = 1, so BUSY has its home
  here (`State.busy`; DEDUCED, log 9). -/
  inFlight : Option Word
  /-- *opaque_latched*, CTRL.OPAQUE_ERR at the issue (R47). -/
  opaqueLatched : Bool
  /-- LMEM (R60). -/
  lmem : Memory
  /-- The host's accesses still to come, the next first: the model's own field, no state of the block (DESIGN CHOICE,
  log 3). -/
  hostQueue : List HostAccess
  /-- The agents that move next, in order; when it is empty, the engine moves while BUSY = 1 and the host otherwise:
  the model's own field, no state of the block (DESIGN CHOICE, log 3). -/
  schedule : List Turn
  /-- The bus's answer to the host's last access: the model's own field, no state of the block (DEDUCED, log 4). -/
  response : Response
  /-- How many unspecified values have been drawn: the model's own field, no state of the block (DESIGN CHOICE,
  log 5). -/
  draws : Nat
  deriving DecidableEq, Repr

/-- The state after a power-on reset (R50, R221) of a block with the reference MEM_BYTES (log 1).  The spec leaves LMEM
unspecified there; here no byte is listed, and an unlisted byte reads as 0 (log 2). -/
def State.reset : State where
  memBytes := Config.memBytesReference
  irqEn := false
  opaqueErr := false
  done := false
  err := false
  wbusy := false
  seedValid := false
  errCode := .ok
  cmd := 0#32
  srcAddr := 0#32
  srcLen := 0#32
  dstAddr := 0#32
  outLen := 0#32
  kLen := 0#32
  resultLen := 0#32
  digest := .replicate 8 0#32
  seed := .replicate 8 0#32
  sponge := { a := .replicate 25 0#64, pos := 0 }
  phase := .idle
  inFlight := none
  opaqueLatched := false
  lmem := []
  hostQueue := []
  schedule := []
  response := .none
  draws := 0

end Sys2Proof.Machine
end

