-- ==== Sys2Proof/Machine/Bits.lean ====
section
/-! DEFINITION. Byte strings and byte orders (spec/00_scope.md R8, R10; spec/20_memory.md R62, R67). -/

namespace Sys2Proof.Machine

/-- `v[hi:lo]` of a non-negative integer (R8). -/
def bitsOf (v hi lo : Nat) : Nat := v / 2 ^ lo % 2 ^ (hi - lo + 1)

/-- `le_bytes_4(v)` (R10). -/
def leBytes4 (v : Word) : List Byte :=
  [v.extractLsb' 0 8, v.extractLsb' 8 8, v.extractLsb' 16 8, v.extractLsb' 24 8]

/-- `from_le(b0 ‖ b1 ‖ b2 ‖ b3)` (R10, R62). -/
def fromLe4 (b0 b1 b2 b3 : Byte) : Word := b3 ++ b2 ++ b1 ++ b0

/-- `le_bytes_8(v)`, a lane's little-endian bytes (R67, R101). -/
def leBytes8 (v : Lane) : List Byte :=
  [v.extractLsb' 0 8, v.extractLsb' 8 8, v.extractLsb' 16 8, v.extractLsb' 24 8,
   v.extractLsb' 32 8, v.extractLsb' 40 8, v.extractLsb' 48 8, v.extractLsb' 56 8]

/-- `be32(i)`, the 4-byte big-endian encoding of 0 ≤ i < 2^32 (R10); a larger i is cut to 32 bits (DEDUCED, log 12). -/
def be32 (i : Nat) : List Byte :=
  [BitVec.ofNat 8 (bitsOf i 31 24), BitVec.ofNat 8 (bitsOf i 23 16), BitVec.ofNat 8 (bitsOf i 15 8),
   BitVec.ofNat 8 (bitsOf i 7 0)]

/-- `from_le(b[4j..4j+4))` of a byte string (R39, R63). -/
def wordAt (b : List Byte) (j : Nat) : Word :=
  fromLe4 (b.getD (4 * j) 0) (b.getD (4 * j + 1) 0) (b.getD (4 * j + 2) 0) (b.getD (4 * j + 3) 0)

/-- The eight little-endian words of a 32-byte string (R39). -/
def wordsOf32 (b : List Byte) : Vector Word 8 :=
  #v[wordAt b 0, wordAt b 1, wordAt b 2, wordAt b 3, wordAt b 4, wordAt b 5, wordAt b 6, wordAt b 7]

/-- The bytes of eight words, little-endian: `b[4j + i] = W[j][8i+7:8i]` (R40). -/
def bytesOfWords (w : Vector Word 8) : List Byte := w.toList.flatMap leBytes4

/-- The bytewise XOR of two strings of equal length (R10). -/
def xorBytes (a b : List Byte) : List Byte := List.zipWith (· ^^^ ·) a b

/-- `0^n` (R10). -/
def zeros (n : Nat) : List Byte := List.replicate n 0#8

end Sys2Proof.Machine
end

