-- ==== Sys2Proof/Machine/Flags.lean ====
section
/-! DEFINITION. The engine's flags (spec/10_state.md R29, R30, R38, R46): the codes of errors and phases, the words that
CTRL, STATUS and SPONGE read as, what an issue and a completion do to STATUS (spec/60_exceptions.md R193 to R195), and
the interrupt line (R199). -/

namespace Sys2Proof.Machine

/-- The number of an error code (R191). -/
def ErrCode.code : ErrCode → Byte
  | .ok => 0#8
  | .badCmd => 1#8
  | .seq => 2#8
  | .srcRange => 3#8
  | .dstRange => 4#8
  | .overlap => 5#8
  | .noSeed => 6#8
  | .msgTooLong => 7#8
  | .modTooSmall => 8#8
  | .labelMismatch => 9#8
  | .noSeparator => 10#8
  | .badSeparator => 11#8
  | .decodeFail => 12#8
  | .b64Len => 13#8
  | .b64Char => 14#8
  | .b64Pad => 15#8

/-- The number of a phase (R38, R46). -/
def Phase.code : Phase → BitVec 2
  | .idle => 0#2
  | .absorb => 1#2
  | .finalDone => 2#2

/-- STATUS.BUSY: a command is in flight exactly while it is 1 (R47). -/
def State.busy (s : State) : Bool := s.inFlight.isSome

/-- CTRL reads `zext_32(OPAQUE_ERR ‖ IRQ_EN)` (R29). -/
def State.ctrlWord (s : State) : Word :=
  0#30 ++ BitVec.ofBool s.opaqueErr ++ BitVec.ofBool s.irqEn

/-- STATUS as it reads: ERRCODE in 15:8, SEED_VALID, WBUSY, ERR, DONE, BUSY in 4:0, every other bit 0 (R30). -/
def State.statusWord (s : State) : Word :=
  0#16 ++ s.errCode.code ++ 0#3 ++ BitVec.ofBool s.seedValid ++ BitVec.ofBool s.wbusy ++ BitVec.ofBool s.err
    ++ BitVec.ofBool s.done ++ BitVec.ofBool s.busy

/-- SPONGE as it reads: PHASE in 9:8, POS in 7:0, every other bit 0 (R38). -/
def State.spongeWord (s : State) : Word :=
  0#22 ++ s.phase.code ++ BitVec.ofNat 8 s.sponge.pos.val

/-- IRQ = CTRL.IRQ_EN and STATUS.DONE (R199). -/
def State.irq (s : State) : Bool := s.irqEn && s.done

/-- The STATUS fields an issue clears; BUSY becomes 1 by `inFlight` (R193).  WBUSY and SEED_VALID stay. -/
def State.issueFlags (s : State) : State := { s with done := false, err := false, errCode := .ok }

/-- The STATUS fields of a success; BUSY becomes 0 by `inFlight` (R194). -/
def State.successFlags (s : State) : State := { s with done := true, err := false, errCode := .ok }

/-- The STATUS fields of an error; BUSY becomes 0 by `inFlight` (R195). -/
def State.errorFlags (s : State) (e : ErrCode) : State := { s with done := true, err := true, errCode := e }

/-- A host write of v to STATUS: writing 1 clears DONE and WBUSY, the other bits are ignored (R30). -/
def State.writeStatus (s : State) (v : Word) : State :=
  { s with done := s.done && !v.getLsbD 1, wbusy := s.wbusy && !v.getLsbD 3 }

end Sys2Proof.Machine
end

