-- ==== Sys2Proof/Machine/Memory.lean ====
section
/-! DEFINITION. LMEM as plain data (spec/20_memory.md R60, R64): a list of (address, byte) pairs, addresses strictly
rising, with no entry equal to what an unlisted address reads as. -/

namespace Sys2Proof.Machine

/-- What an address that is not listed reads as.  DESIGN CHOICE (log 2): the spec leaves power-on LMEM unspecified. -/
def unlistedByte : Byte := 0#8

/-- The byte at an address. -/
def Memory.read : Memory → Nat → Byte
  | [], _ => unlistedByte
  | (k, b) :: rest, a => if a = k then b else Memory.read rest a

/-- The memory with one byte replaced, in canonical form. -/
def Memory.write : Memory → Nat → Byte → Memory
  | [], a, v => if v = unlistedByte then [] else [(a, v)]
  | (k, b) :: rest, a, v =>
    if a < k then
      if v = unlistedByte then (k, b) :: rest else (a, v) :: (k, b) :: rest
    else if a = k then
      if v = unlistedByte then rest else (a, v) :: rest
    else (k, b) :: Memory.write rest a v

/-- `LMEM[addr..addr+n)` (R64). -/
def Memory.readBytes (m : Memory) (addr : Nat) : Nat → List Byte
  | 0 => []
  | n + 1 => m.read addr :: Memory.readBytes m (addr + 1) n

/-- `LMEM[addr + i] <- v[i]` for every index of v (R64). -/
def Memory.writeBytes (m : Memory) (addr : Nat) : List Byte → Memory
  | [] => m
  | v :: vs => Memory.writeBytes (m.write addr v) (addr + 1) vs

/-- The canonical form: addresses strictly rising, no entry equal to what an unlisted address reads as. -/
abbrev Memory.wf (m : Memory) : Prop :=
  m.Pairwise (fun c d => c.1 < d.1) ∧ ∀ c ∈ m, c.2 ≠ unlistedByte

/-- Every listed address lies in LMEM (R60). -/
abbrev Memory.within (m : Memory) (size : Nat) : Prop := ∀ c ∈ m, c.1 < size

end Sys2Proof.Machine
end

