-- ==== Sys2Proof/Machine/Operands.lean ====
section
/-! DEFINITION. The operands of the commands (spec/30_encoding.md R81): regions of LMEM, their validity and overlap
(spec/20_memory.md R65, R66), the seed (spec/10_state.md R40), and the region each command may write
(spec/70_reset_and_hazards.md R222).  Lengths and addresses are unbounded integers (spec/00_scope.md R9). -/

namespace Sys2Proof.Machine

/-- The outcome of a meaning. -/
abbrev Result := Host.Outcome State Fault Refusal

/-- A pair (address, length) naming `LMEM[addr..addr+len)`. -/
structure Region where
  addr : Nat
  len : Nat
  deriving DecidableEq, Repr

/-- A region is valid iff `addr + len ≤ MEM_BYTES` (R65). -/
abbrev State.valid (s : State) (r : Region) : Prop := r.addr + r.len ≤ s.memBytes

/-- Two regions overlap (R66). -/
abbrev Region.overlaps (r q : Region) : Prop :=
  0 < r.len ∧ 0 < q.len ∧ r.addr < q.addr + q.len ∧ q.addr < r.addr + r.len

/-- An address lies in a region. -/
abbrev Region.contains (r : Region) (a : Nat) : Prop := r.addr ≤ a ∧ a < r.addr + r.len

/-- The source region (SRC_ADDR, SRC_LEN) (R81). -/
def State.src (s : State) : Region := ⟨s.srcAddr.toNat, s.srcLen.toNat⟩

/-- The source region of OAEP_DEC, (SRC_ADDR, K_LEN): SRC_LEN is not read (R151). -/
def State.srcBlock (s : State) : Region := ⟨s.srcAddr.toNat, s.kLen.toNat⟩

/-- The destination region (DST_ADDR, n). -/
def State.dst (s : State) (n : Nat) : Region := ⟨s.dstAddr.toNat, n⟩

/-- `seed[4j + b] = R[SEEDj][8b+7:8b]` (R40). -/
def State.seedBytes (s : State) : List Byte := bytesOfWords s.seed

/-- `4 · ceil(n / 3)`, the length of the Base64 text of n bytes (R172). -/
def b64TextLen (n : Nat) : Nat := 4 * ((n + 2) / 3)

/-- Dest(c), the region a command may write, from the argument registers (R222).  `K_LEN − 66` is 0 below 66. -/
def State.dest (s : State) : Instr → Region
  | .keccakF => s.dst 0
  | .sha3Init => s.dst 0
  | .sha3Absorb => s.dst 0
  | .sha3Final => s.dst Config.hLen
  | .sha3Hash => s.dst Config.hLen
  | .mgf1 => s.dst s.outLen.toNat
  | .oaepEnc => s.dst s.kLen.toNat
  | .oaepDec => s.dst (s.kLen.toNat - Config.oaepMinK)
  | .b64Enc => s.dst (b64TextLen s.srcLen.toNat)
  | .b64Dec => s.dst (3 * (s.srcLen.toNat / 4))

end Sys2Proof.Machine
end

