-- ==== Sys2Proof/Machine/Ops.lean ====
section
/-! DEFINITION. The shared operations: issuing a command (spec/60_exceptions.md R193), ending it with success (R194) or
with an error (R195: the block's one exception mechanism, R190), its reads and writes of LMEM (spec/20_memory.md R64),
and the two resets (spec/70_reset_and_hazards.md R220 to R222). -/

namespace Sys2Proof.Machine

/-- Issue of the word w, in one step (R193). -/
def State.issue (s : State) (w : Word) : State :=
  { s.issueFlags with cmd := w, inFlight := some w, opaqueLatched := s.opaqueErr }

/-- The state after `complete(n)` (R194): the whole command is one engine step (R12, R68; DEDUCED, log 11). -/
def State.completed (s : State) (n : Nat) : State :=
  { s.successFlags with resultLen := BitVec.ofNat 32 n, inFlight := none }

/-- The state after `raise e` (R195): only RESULT_LEN, BUSY, DONE, ERR and ERRCODE change. -/
def State.failed (s : State) (e : ErrCode) : State :=
  { s.errorFlags e with resultLen := 0#32, inFlight := none }

/-- `complete(n)` (R11, R194). -/
def State.complete (s : State) (n : Nat) : Result := .next (s.completed n)

/-- `raise e` (R11, R195): every error is reported by the completion, never taken as a trap (R190). -/
def State.raise (s : State) (e : ErrCode) : Result := .next (s.failed e)

/-- `MemRead` (R11, R64) of a region, given to the rest of the command. -/
def State.memRead (s : State) (r : Region) (k : List Byte → Result) : Result :=
  if s.valid r then k (s.lmem.readBytes r.addr r.len) else .fault .lmemOutOfRange

/-- `MemWrite` (R11, R64) of the string v at addr, then the rest of the command. -/
def State.memWrite (s : State) (addr : Nat) (v : List Byte) (k : State → Result) : Result :=
  if s.valid ⟨addr, v.length⟩ then k { s with lmem := s.lmem.writeBytes addr v } else .fault .lmemOutOfRange

/-- `R[DIGESTj] <- from_le(D[4j..4j+4))` for j = 0..7 (R39). -/
def State.setDigest (s : State) (d : List Byte) : State := { s with digest := wordsOf32 d }

/-- The n next unspecified bytes, drawn independently (R221, R222). -/
def State.drawnBytes (s : State) (n : Nat) : List Byte :=
  (List.range n).map fun i => Config.freeByte (s.draws + i)

/-- The part of a region that lies in LMEM: how many of its bytes have an address below MEM_BYTES (R222). -/
def State.clipLen (s : State) (r : Region) : Nat := min (r.addr + r.len) s.memBytes - r.addr

/-- `for every byte address a in r with a < MEM_BYTES: LMEM[a] <- unspecified` (R222). -/
def State.scramble (s : State) (r : Region) : State :=
  { s with lmem := s.lmem.writeBytes r.addr (s.drawnBytes (s.clipLen r)), draws := s.draws + s.clipLen r }

/-- Every register, field and piece of engine state at its R221 value; LMEM, the drawn count and the environment are
those of s (DESIGN CHOICE, log 7). -/
def State.resetRegs (s : State) : State :=
  { State.reset with
    memBytes := s.memBytes, lmem := s.lmem, draws := s.draws,
    hostQueue := s.hostQueue, schedule := s.schedule, response := s.response }

/-- An in-flight command is abandoned: the region it may write becomes unspecified (R222).  An illegal word writes
nothing. -/
def State.abandon (s : State) : State :=
  match s.inFlight with
  | none => s
  | some w =>
    match decode w with
    | .ok i => s.scramble (s.dest i)
    | .error _ => s

/-- Soft reset (R222). -/
def State.softReset (s : State) : State := s.abandon.resetRegs

/-- Power-on reset (R221): every byte of LMEM is drawn once and then stays until written. -/
def State.powerOnReset (s : State) : State :=
  ({ s with lmem := Memory.writeBytes [] 0 (s.drawnBytes s.memBytes), draws := s.draws + s.memBytes }).resetRegs

end Sys2Proof.Machine
end

