-- ==== Sys2Proof/Machine/Base64.lean ====
section
/-! DEFINITION. The Base64 codec (spec/42_base64.md R170 to R175) and its commands B64_ENC and B64_DEC (R176, R177). -/

namespace Sys2Proof.Machine

/-- The pad character `=` (R170). -/
def b64PadChar : Byte := 0x3D#8

/-- `chr(v)`, the character of a value 0..63 (R170). -/
def b64Chr (v : Nat) : Byte :=
  if v < 26 then BitVec.ofNat 8 (0x41 + v)
  else if v < 52 then BitVec.ofNat 8 (0x61 + (v - 26))
  else if v < 62 then BitVec.ofNat 8 (0x30 + (v - 52))
  else if v = 62 then 0x2B#8
  else 0x2F#8

/-- `val(c)`, the value of an alphabet character; none for every other byte, `=` among them (R170). -/
def b64Val (c : Byte) : Option Nat :=
  let n := c.toNat
  if 0x41 ≤ n ∧ n ≤ 0x5A then some (n - 0x41)
  else if 0x61 ≤ n ∧ n ≤ 0x7A then some (n - 0x61 + 26)
  else if 0x30 ≤ n ∧ n ≤ 0x39 then some (n - 0x30 + 52)
  else if n = 0x2B then some 62
  else if n = 0x2F then some 63
  else none

/-- The four characters of a group of 1 to 3 bytes, most significant bits first, missing bytes as 0 (R171). -/
def b64Group (t : List Byte) : List Byte :=
  let v := (t.getD 0 0).toNat * 2 ^ 16 + (t.getD 1 0).toNat * 2 ^ 8 + (t.getD 2 0).toNat
  [b64Chr (bitsOf v 23 18), b64Chr (bitsOf v 17 12),
   if 2 ≤ t.length then b64Chr (bitsOf v 11 6) else b64PadChar,
   if t.length = 3 then b64Chr (bitsOf v 5 0) else b64PadChar]

/-- `B64_Encode(b)` (R171). -/
def b64Encode : List Byte → List Byte
  | [] => []
  | [x] => b64Group [x]
  | [x, y] => b64Group [x, y]
  | x :: y :: z :: rest => b64Group [x, y, z] ++ b64Encode rest

/-- The pad count p of a text (R173 item 2). -/
def b64PadCount (s : List Byte) : Nat :=
  if 4 ≤ s.length ∧ s[s.length - 1]? = some b64PadChar ∧ s[s.length - 2]? = some b64PadChar then 2
  else if 4 ≤ s.length ∧ s[s.length - 1]? = some b64PadChar then 1
  else 0

/-- The scan of R173 item 3: the error of the first character before the padding that is not in the alphabet. -/
def b64Scan (s : List Byte) : Option ErrCode :=
  match (s.take (s.length - b64PadCount s)).find? (fun c => (b64Val c).isNone) with
  | none => none
  | some c => some (if c = b64PadChar then .b64Pad else .b64Char)

/-- `w(c)`: the value of an alphabet character, 0 for `=` (R174). -/
def b64Weight (c : Byte) : Nat := (b64Val c).getD 0

/-- The three bytes of a quad (R174). -/
def b64Quad (c0 c1 c2 c3 : Byte) : List Byte :=
  let v := b64Weight c0 * 2 ^ 18 + b64Weight c1 * 2 ^ 12 + b64Weight c2 * 2 ^ 6 + b64Weight c3
  [BitVec.ofNat 8 (bitsOf v 23 16), BitVec.ofNat 8 (bitsOf v 15 8), BitVec.ofNat 8 (bitsOf v 7 0)]

/-- The bytes of every quad of a text (R174). -/
def b64Quads : List Byte → List Byte
  | c0 :: c1 :: c2 :: c3 :: rest => b64Quad c0 c1 c2 c3 ++ b64Quads rest
  | _ => []

/-- The output length 3L/4 − p of a text whose length is a multiple of 4 (R174, R177). -/
def b64DecodedLen (s : List Byte) : Nat := 3 * s.length / 4 - b64PadCount s

/-- `B64_Decode(s)` (R174). -/
def b64Decode (s : List Byte) : List Byte := (b64Quads s).take (b64DecodedLen s)

/-- B64_ENC (R176). -/
def execB64Enc (s : State) : Result :=
  if ¬ s.valid s.src then s.raise .srcRange
  else if ¬ s.valid (s.dst (b64TextLen s.srcLen.toNat)) then s.raise .dstRange
  else if s.src.overlaps (s.dst (b64TextLen s.srcLen.toNat)) then s.raise .overlap
  else s.memRead s.src fun b =>
    s.memWrite s.dstAddr.toNat (b64Encode b) fun t => t.complete (b64TextLen s.srcLen.toNat)

/-- B64_DEC (R177): the text is read before the destination check, which uses the exact output length. -/
def execB64Dec (s : State) : Result :=
  if s.srcLen.toNat % 4 ≠ 0 then s.raise .b64Len
  else if ¬ s.valid s.src then s.raise .srcRange
  else s.memRead s.src fun text =>
    if ¬ s.valid (s.dst (b64DecodedLen text)) then s.raise .dstRange
    else if s.src.overlaps (s.dst (b64DecodedLen text)) then s.raise .overlap
    else
      match b64Scan text with
      | some e => s.raise e
      | none => s.memWrite s.dstAddr.toNat (b64Decode text) fun t => t.complete (b64DecodedLen text)

end Sys2Proof.Machine
end

