-- ==== Sys2Proof/Machine/Keccak.lean ====
section
/-! DEFINITION. The Keccak-f[1600] permutation (spec/40_keccak_sha3.md R100 to R109) and its command KECCAK_F (R120). -/

namespace Sys2Proof.Machine

/-- Lane (x, y) has index x + 5·y, with x and y taken mod 5 (R100). -/
def laneIndex (x y : Nat) : Fin 25 := ⟨x % 5 + 5 * (y % 5), by omega⟩

/-- `A[x,y]` (R100). -/
def Lanes.lane (A : Lanes) (x y : Nat) : Lane := A[laneIndex x y]

/-- `A[x,y] <- v`. -/
def Lanes.setLane (A : Lanes) (x y : Nat) (v : Lane) : Lanes := A.set (laneIndex x y) v

/-- The state whose lane (x, y) is f x y, for x, y in 0..4, in index order. -/
def Lanes.build (f : Nat → Nat → Lane) : Lanes :=
  #v[f 0 0, f 1 0, f 2 0, f 3 0, f 4 0,
     f 0 1, f 1 1, f 2 1, f 3 1, f 4 1,
     f 0 2, f 1 2, f 2 2, f 3 2, f 4 2,
     f 0 3, f 1 3, f 2 3, f 3 3, f 4 3,
     f 0 4, f 1 4, f 2 4, f 3 4, f 4 4]

/-- All 1600 bits zero (R44). -/
def Lanes.zero : Lanes := .replicate 25 0#64

/-- `S[j] = A[i mod 5, i div 5][8b+7:8b]` with i = j div 8 and b = j mod 8 (R101). -/
def Lanes.getByte (A : Lanes) (j : Fin 200) : Byte := A[j.val / 8].extractLsb' (8 * (j.val % 8)) 8

/-- Writing S[j] writes those 8 bits of that lane (R101). -/
def Lanes.setByte (A : Lanes) (j : Fin 200) (v : Byte) : Lanes :=
  A.set (j.val / 8)
    ((A[j.val / 8] &&& ~~~(0xFF#64 <<< (8 * (j.val % 8)))) ||| (v.setWidth 64 <<< (8 * (j.val % 8))))

/-- `rotl64(v, n)` for 0 ≤ n < 64 (R102). -/
def rotl64 (v : Lane) (n : Nat) : Lane := if n = 0 then v else (v <<< n) ||| (v >>> (64 - n))

/-- θ, column parities: `C[x]` (R103). -/
def thetaC (A : Lanes) (x : Nat) : Lane := A.lane x 0 ^^^ A.lane x 1 ^^^ A.lane x 2 ^^^ A.lane x 3 ^^^ A.lane x 4

/-- θ: `D[x]` (R103); x − 1 is x + 4 mod 5. -/
def thetaD (A : Lanes) (x : Nat) : Lane := thetaC A (x + 4) ^^^ rotl64 (thetaC A (x + 1)) 1

/-- θ (R103). -/
def theta (A : Lanes) : Lanes := .build fun x y => A.lane x y ^^^ thetaD A x

/-- The ρ offsets r[x,y], row y = 0 first (R104). -/
def rhoOffsets : List Nat :=
  [0, 1, 62, 28, 27,
   36, 44, 6, 55, 20,
   3, 10, 43, 25, 39,
   41, 45, 15, 21, 8,
   18, 2, 61, 56, 14]

/-- `r[x,y]` (R104). -/
def rhoOffset (x y : Nat) : Nat := rhoOffsets.getD (laneIndex x y).val 0

/-- The 25 pairs (x, y). -/
def lanePairs : List (Nat × Nat) :=
  [(0, 0), (1, 0), (2, 0), (3, 0), (4, 0),
   (0, 1), (1, 1), (2, 1), (3, 1), (4, 1),
   (0, 2), (1, 2), (2, 2), (3, 2), (4, 2),
   (0, 3), (1, 3), (2, 3), (3, 3), (4, 3),
   (0, 4), (1, 4), (2, 4), (3, 4), (4, 4)]

/-- ρ and π: `B[y, (2x + 3y) mod 5] <- rotl64(A[x,y], r[x,y])` for every lane (R105). -/
def rhoPi (A : Lanes) : Lanes :=
  lanePairs.foldl
    (fun B p => B.setLane p.2 (2 * p.1 + 3 * p.2) (rotl64 (A.lane p.1 p.2) (rhoOffset p.1 p.2))) Lanes.zero

/-- χ, reading only values from before the step (R106). -/
def chi (B : Lanes) : Lanes := .build fun x y => B.lane x y ^^^ (~~~(B.lane (x + 1) y) &&& B.lane (x + 2) y)

/-- The round constants RC[0..23] (R107). -/
def roundConstants : List Lane :=
  [0x0000000000000001#64, 0x0000000000008082#64, 0x800000000000808A#64, 0x8000000080008000#64,
   0x000000000000808B#64, 0x0000000080000001#64, 0x8000000080008081#64, 0x8000000000008009#64,
   0x000000000000008A#64, 0x0000000000000088#64, 0x0000000080008009#64, 0x000000008000000A#64,
   0x000000008000808B#64, 0x800000000000008B#64, 0x8000000000008089#64, 0x8000000000008003#64,
   0x8000000000008002#64, 0x8000000000000080#64, 0x000000000000800A#64, 0x800000008000000A#64,
   0x8000000080008081#64, 0x8000000000008080#64, 0x0000000080000001#64, 0x8000000080008008#64]

/-- `RC[i]` (R107). -/
def roundConstant (i : Nat) : Lane := roundConstants.getD i 0#64

/-- ι of round i (R107). -/
def iota (i : Nat) (A : Lanes) : Lanes := A.setLane 0 0 (A.lane 0 0 ^^^ roundConstant i)

/-- `Round(A, i) = ι_i(χ(ρπ(θ(A))))` (R108). -/
def keccakRound (A : Lanes) (i : Nat) : Lanes := iota i (chi (rhoPi (theta A)))

/-- `KeccakF(A)`: the rounds 0 to 23 in order (R108). -/
def keccakF (A : Lanes) : Lanes := (List.range Config.rounds).foldl keccakRound A

/-- KECCAK_F (R120): A <- KeccakF(A); complete(0).  POS and PHASE stay. -/
def execKeccakF (s : State) : Result :=
  ({ s with sponge := { s.sponge with a := keccakF s.sponge.a } }).complete 0

end Sys2Proof.Machine
end

