-- ==== Sys2Proof/Machine/Sha3.lean ====
section
/-! DEFINITION. The SHA3-256 sponge (spec/40_keccak_sha3.md R110 to R116) and its commands SHA3_INIT, SHA3_ABSORB,
SHA3_FINAL and SHA3_256 (R121 to R124). -/

namespace Sys2Proof.Machine

/-- A fresh context: A = 0, POS = 0 (R114, R121). -/
def Sponge.init : Sponge := { a := Lanes.zero, pos := 0 }

/-- Byte S[p] of the rate part, as an index of the byte view (R101, R110). -/
def rateIndex (p : Fin 136) : Fin 200 := ⟨p.val, by omega⟩

/-- `S[p] <- S[p] ^ b` for a rate byte (R111, R112). -/
def Lanes.xorByte (A : Lanes) (p : Fin 136) (b : Byte) : Lanes :=
  A.setByte (rateIndex p) (A.getByte (rateIndex p) ^^^ b)

/-- `AbsorbByte(b)` (R111): when POS reaches 136 the state is permuted and POS returns to 0. -/
def Sponge.absorbByte (c : Sponge) (b : Byte) : Sponge :=
  if h : c.pos.val + 1 < 136 then { a := c.a.xorByte c.pos b, pos := ⟨c.pos.val + 1, h⟩ }
  else { a := keccakF (c.a.xorByte c.pos b), pos := 0 }

/-- Absorbing a string, byte by byte in order (R111). -/
def Sponge.absorb (c : Sponge) (m : List Byte) : Sponge := m.foldl Sponge.absorbByte c

/-- The context after `Finalize()`: 0x06 at POS, 0x80 at byte 135, one permutation, POS <- 0 (R112). -/
def Sponge.finalize (c : Sponge) : Sponge :=
  { a := keccakF ((c.a.xorByte c.pos 0x06#8).xorByte 135 0x80#8), pos := 0 }

/-- `S[0..32)`: the digest, the first 32 bytes of the state read as little-endian lanes (R112). -/
def Lanes.digest (A : Lanes) : List Byte := leBytes8 A[0] ++ leBytes8 A[1] ++ leBytes8 A[2] ++ leBytes8 A[3]

/-- `SHA3_256(M)`, in a private context (R114, R116). -/
def sha3 (m : List Byte) : List Byte := (Sponge.init.absorb m).finalize.a.digest

/-- SHA3_INIT (R121). -/
def execSha3Init (s : State) : Result :=
  ({ s with sponge := Sponge.init, phase := .absorb }).complete 0

/-- SHA3_ABSORB (R122). -/
def execSha3Absorb (s : State) : Result :=
  if s.phase ≠ .absorb then s.raise .seq
  else if ¬ s.valid s.src then s.raise .srcRange
  else s.memRead s.src fun m => ({ s with sponge := s.sponge.absorb m }).complete 0

/-- SHA3_FINAL (R123). -/
def execSha3Final (s : State) : Result :=
  if s.phase ≠ .absorb then s.raise .seq
  else if ¬ s.valid (s.dst Config.hLen) then s.raise .dstRange
  else
    let c := s.sponge.finalize
    (({ s with sponge := c, phase := .finalDone }).setDigest c.a.digest).memWrite s.dstAddr.toNat c.a.digest fun t =>
      t.complete Config.hLen

/-- SHA3_256 (R124): A, POS and PHASE stay (R116). -/
def execSha3Hash (s : State) : Result :=
  if ¬ s.valid s.src then s.raise .srcRange
  else if ¬ s.valid (s.dst Config.hLen) then s.raise .dstRange
  else if s.src.overlaps (s.dst Config.hLen) then s.raise .overlap
  else s.memRead s.src fun m =>
    (s.setDigest (sha3 m)).memWrite s.dstAddr.toNat (sha3 m) fun t => t.complete Config.hLen

end Sys2Proof.Machine
end

