-- ==== Sys2Proof/Machine/Oaep.lean ====
section
/-! DEFINITION. MGF1 (spec/41_mgf1_oaep.md R140 to R142) and OAEP (R145 to R154), with the commands MGF1, OAEP_ENC and
OAEP_DEC.  Every hash runs in a private context (spec/40_keccak_sha3.md R116). -/

namespace Sys2Proof.Machine

/-- `MGF1(Z, L)` (R140): the digests of Z ‖ be32(i) for i = 0, 1, …, ceil(L / 32) − 1, cut to L bytes. -/
def mgf1 (z : List Byte) (len : Nat) : List Byte :=
  ((List.range ((len + 31) / 32)).flatMap fun i => sha3 (z ++ be32 i)).take len

/-- lHash, the digest of the empty label (R145). -/
def lHash : List Byte := sha3 []

/-- DB = lHash ‖ PS ‖ 0x01 ‖ M, k − 33 bytes (R146). -/
def oaepDb (m : List Byte) (k : Nat) : List Byte := lHash ++ zeros (k - m.length - 66) ++ [0x01#8] ++ m

/-- `OAEP_Encode(M, k, seed)` (R146). -/
def oaepEncode (m : List Byte) (k : Nat) (seed : List Byte) : List Byte :=
  let maskedDb := xorBytes (oaepDb m k) (mgf1 seed (k - 33))
  let maskedSeed := xorBytes seed (mgf1 maskedDb 32)
  [0x00#8] ++ maskedSeed ++ maskedDb

/-- The DB that the decoder recovers from a k-byte block: EM[0] is not examined (R148). -/
def oaepRecoverDb (em : List Byte) (k : Nat) : List Byte :=
  let maskedSeed := (em.drop 1).take 32
  let maskedDb := (em.drop 33).take (k - 33)
  let seed := xorBytes maskedSeed (mgf1 maskedDb 32)
  xorBytes maskedDb (mgf1 seed (k - 33))

/-- The separator scan over DB[32..k−33): the first non-zero byte must be 0x01, and the message follows it
(R148, R149). -/
def oaepUnpad (t : List Byte) : Except ErrCode (List Byte) :=
  match t.dropWhile (· = 0#8) with
  | [] => .error .noSeparator
  | b :: rest => if b = 0x01#8 then .ok rest else .error .badSeparator

/-- `OAEP_Decode(EM, k)` (R148): the label check, then the separator scan. -/
def oaepDecode (em : List Byte) (k : Nat) : Except ErrCode (List Byte) :=
  let db := oaepRecoverDb em k
  if db.take 32 ≠ lHash then .error .labelMismatch else oaepUnpad (db.drop 32)

/-- MGF1 (R142). -/
def execMgf1 (s : State) : Result :=
  if ¬ s.valid s.src then s.raise .srcRange
  else if ¬ s.valid (s.dst s.outLen.toNat) then s.raise .dstRange
  else if s.src.overlaps (s.dst s.outLen.toNat) then s.raise .overlap
  else s.memRead s.src fun z =>
    s.memWrite s.dstAddr.toNat (mgf1 z s.outLen.toNat) fun t => t.complete s.outLen.toNat

/-- A successful OAEP_ENC clears SEED0..7 and SEED_VALID (R41, R150). -/
def State.consumeSeed (s : State) : State := { s with seed := .replicate 8 0#32, seedValid := false }

/-- OAEP_ENC (R150); the length check is made in ℤ. -/
def execOaepEnc (s : State) : Result :=
  if (s.srcLen.toNat : Int) > (s.kLen.toNat : Int) - 66 then s.raise .msgTooLong
  else if ¬ s.seedValid then s.raise .noSeed
  else if ¬ s.valid s.src then s.raise .srcRange
  else if ¬ s.valid (s.dst s.kLen.toNat) then s.raise .dstRange
  else if s.src.overlaps (s.dst s.kLen.toNat) then s.raise .overlap
  else s.memRead s.src fun m =>
    s.consumeSeed.memWrite s.dstAddr.toNat (oaepEncode m s.kLen.toNat s.seedBytes) fun t =>
      t.complete s.kLen.toNat

/-- OAEP_DEC (R151); *opaque_latched* collapses the three decode failures to DECODE_FAIL. -/
def execOaepDec (s : State) : Result :=
  if s.kLen.toNat < Config.oaepMinK then s.raise .modTooSmall
  else if ¬ s.valid s.srcBlock then s.raise .srcRange
  else if ¬ s.valid (s.dst (s.kLen.toNat - 66)) then s.raise .dstRange
  else if s.srcBlock.overlaps (s.dst (s.kLen.toNat - 66)) then s.raise .overlap
  else s.memRead s.srcBlock fun em =>
    match oaepDecode em s.kLen.toNat with
    | .error e => if s.opaqueLatched then s.raise .decodeFail else s.raise e
    | .ok m => s.memWrite s.dstAddr.toNat m fun t => t.complete m.length

end Sys2Proof.Machine
end

