-- ==== Sys2Proof/Machine/Dispatch.lean ====
section
/-! DEFINITION. The meaning of each command (spec/30_encoding.md R82), one arm per constructor of Instr. -/

namespace Sys2Proof.Machine

def exec (i : Instr) (s : State) : Host.Outcome State Fault Refusal :=
  match i with
  | .keccakF => Sys2Proof.Machine.execKeccakF s
  | .sha3Init => Sys2Proof.Machine.execSha3Init s
  | .sha3Absorb => Sys2Proof.Machine.execSha3Absorb s
  | .sha3Final => Sys2Proof.Machine.execSha3Final s
  | .sha3Hash => Sys2Proof.Machine.execSha3Hash s
  | .mgf1 => Sys2Proof.Machine.execMgf1 s
  | .oaepEnc => Sys2Proof.Machine.execOaepEnc s
  | .oaepDec => Sys2Proof.Machine.execOaepDec s
  | .b64Enc => Sys2Proof.Machine.execB64Enc s
  | .b64Dec => Sys2Proof.Machine.execB64Dec s

end Sys2Proof.Machine
end

