-- ==== Sys2Proof/Machine/Engine.lean ====
section
/-! DEFINITION. The engine's step: the completion of the command in flight (spec/60_exceptions.md R194 to R198). -/

namespace Sys2Proof.Machine

/-- The engine moves (R210 item 4): an in-flight command completes with its effect, or with BAD_CMD when its word is
illegal (R83, R198); an idle engine keeps all its state (R209). -/
def engineStep (s : State) : Result :=
  match s.inFlight with
  | none => .next s
  | some w =>
    match decode w with
    | .ok i => exec i s
    | .error _ => s.raise .badCmd

/-- The next turn is taken from the schedule. -/
def State.withSchedule (s : State) (q : List Turn) : State := { s with schedule := q }

end Sys2Proof.Machine
end

