-- ==== Sys2Proof/Machine/HostBus.lean ====
section
/-! DEFINITION. The host's side of the block: the register map (spec/10_state.md R25), host reads and writes
(R24 to R43, R49), accesses that are not admitted (spec/20_memory.md R61), and one host step
(spec/60_exceptions.md R210). -/

namespace Sys2Proof.Machine

/-- What an offset of the block names (R25); `lmem a` is the LMEM window word at byte address a (R43). -/
inductive Target where
  | id | memSize | ctrl | status | cmd | srcAddr | srcLen | dstAddr | outLen | kLen | resultLen | sponge
  | digest (j : Fin 8)
  | seed (j : Fin 8)
  | state (w : Fin 50)
  | lmem (a : Nat)
  | reserved
  deriving DecidableEq, Repr

/-- The registers at offsets 0x000, 0x004, …, 0x02C, in order (R25). -/
def namedRegisters : List Target :=
  [.id, .memSize, .ctrl, .status, .cmd, .srcAddr, .srcLen, .dstAddr, .outLen, .kLen, .resultLen, .sponge]

/-- The register map of a block with `memBytes` bytes of LMEM (R25), for an offset that is a multiple of 4. -/
def targetAt (memBytes off : Nat) : Target :=
  if off < 0x030 then namedRegisters.getD (off / 4) .reserved
  else if h : 0x040 ≤ off ∧ off < 0x060 then .digest ⟨(off - 0x040) / 4, by omega⟩
  else if h : 0x060 ≤ off ∧ off < 0x080 then .seed ⟨(off - 0x060) / 4, by omega⟩
  else if h : 0x100 ≤ off ∧ off < 0x1C8 then .state ⟨(off - 0x100) / 4, by omega⟩
  else if 0x1000 ≤ off ∧ off < 0x1000 + memBytes then .lmem (off - 0x1000)
  else .reserved

/-- The offset of a register or window word (R25); 0x030 stands for the reserved offsets. -/
def Target.offset : Target → Nat
  | .id => 0x000
  | .memSize => 0x004
  | .ctrl => 0x008
  | .status => 0x00C
  | .cmd => 0x010
  | .srcAddr => 0x014
  | .srcLen => 0x018
  | .dstAddr => 0x01C
  | .outLen => 0x020
  | .kLen => 0x024
  | .resultLen => 0x028
  | .sponge => 0x02C
  | .digest j => 0x040 + 4 * j.val
  | .seed j => 0x060 + 4 * j.val
  | .state w => 0x100 + 4 * w.val
  | .lmem a => 0x1000 + a
  | .reserved => 0x030

/-- A host access is admitted iff it is 32 bits wide and its offset is a multiple of 4 (R23, R61). -/
def admitted (width : AccessWidth) (off : Word) : Bool := width == .w32 && off.toNat % 4 == 0

/-- The platform address of an offset (R7): the block itself sees only offsets. -/
def platformAddress (off : Word) : Nat := Config.engineBase + off.toNat

/-- The locations a command may write: a host read of one returns an unspecified word while BUSY = 1 (R49). -/
def Target.unspecifiedWhileBusy : Target → Bool
  | .resultLen | .sponge | .digest _ | .state _ | .lmem _ => true
  | .id | .memSize | .ctrl | .status | .cmd | .srcAddr | .srcLen | .dstAddr | .outLen | .kLen => false
  | .seed _ | .reserved => false

/-- `R[STATEw]`: the low half of lane w div 2 for even w, its high half for odd w (R42). -/
def Lanes.halfLane (A : Lanes) (w : Fin 50) : Word := A[w.val / 2].extractLsb' (32 * (w.val % 2)) 32

/-- A write to STATEw replaces that half-lane (R42). -/
def Lanes.setHalfLane (A : Lanes) (w : Fin 50) (v : Word) : Lanes :=
  A.set (w.val / 2)
    (if w.val % 2 = 0 then A[w.val / 2].extractLsb' 32 32 ++ v else v ++ A[w.val / 2].extractLsb' 0 32)

/-- `from_le(LMEM[a..a+4))` (R43, R63). -/
def Memory.wordAt (m : Memory) (a : Nat) : Word :=
  fromLe4 (m.read a) (m.read (a + 1)) (m.read (a + 2)) (m.read (a + 3))

/-- What a register reads as when its value is specified (R24, R27 to R43, R49). -/
def State.regValue (s : State) : Target → Word
  | .id => Config.idValue
  | .memSize => BitVec.ofNat 32 s.memBytes
  | .ctrl => s.ctrlWord
  | .status => s.statusWord
  | .cmd => s.cmd
  | .srcAddr => s.srcAddr
  | .srcLen => s.srcLen
  | .dstAddr => s.dstAddr
  | .outLen => s.outLen
  | .kLen => s.kLen
  | .resultLen => s.resultLen
  | .sponge => s.spongeWord
  | .digest j => s.digest[j]
  | .seed _ => 0#32
  | .state w => s.sponge.a.halfLane w
  | .lmem a => s.lmem.wordAt a
  | .reserved => 0#32

/-- A host read of an admitted offset: the word it returns (R25, R49). -/
def State.hostRead (s : State) (off : Word) : Word :=
  if s.busy && (targetAt s.memBytes off.toNat).unspecifiedWhileBusy then Config.freeWord s.draws
  else s.regValue (targetAt s.memBytes off.toNat)

/-- A host read has no side effect on the block (R69); a read of an unspecified value counts one draw (R49). -/
def State.afterRead (s : State) (off : Word) : State :=
  if s.busy && (targetAt s.memBytes off.toNat).unspecifiedWhileBusy then { s with draws := s.draws + 1 } else s

/-- A host write of v to CTRL: bit 31 resets the block, and otherwise bits 0 and 1 are stored (R29). -/
def State.writeCtrl (s : State) (v : Word) : State :=
  if v.getLsbD 31 then s.softReset else { s with irqEn := v.getLsbD 0, opaqueErr := v.getLsbD 1 }

/-- A write to SEEDj; SEED7 also sets SEED_VALID (R40, R41). -/
def State.writeSeed (s : State) (j : Fin 8) (v : Word) : State :=
  { s with seed := s.seed.set j v, seedValid := s.seedValid || j.val == 7 }

/-- A droppable write: dropped while BUSY = 1, and WBUSY is set instead (R26). -/
def State.droppable (s : State) (effect : State) : State := if s.busy then { s with wbusy := true } else effect

/-- A host write of v to what an offset names (R24, R26 to R43). -/
def State.writeTarget (s : State) (v : Word) : Target → State
  | .ctrl => s.writeCtrl v
  | .status => s.writeStatus v
  | .cmd => s.droppable (s.issue v)
  | .srcAddr => s.droppable { s with srcAddr := v }
  | .srcLen => s.droppable { s with srcLen := v }
  | .dstAddr => s.droppable { s with dstAddr := v }
  | .outLen => s.droppable { s with outLen := v }
  | .kLen => s.droppable { s with kLen := v }
  | .seed j => s.droppable (s.writeSeed j v)
  | .state w => s.droppable { s with sponge := { s.sponge with a := s.sponge.a.setHalfLane w v } }
  | .lmem a => s.droppable { s with lmem := s.lmem.writeBytes a (leBytes4 v) }
  | .id | .memSize | .resultLen | .sponge | .digest _ | .reserved => s

/-- A host write of v at an admitted offset (R25). -/
def State.hostWrite (s : State) (off v : Word) : State := s.writeTarget v (targetAt s.memBytes off.toNat)

/-- The host's access is done: the rest of the queue, and the bus's answer. -/
def State.answered (s : State) (rest : List HostAccess) (r : Response) : State :=
  { s with hostQueue := rest, response := r }

/-- One access of the host, with `rest` waiting behind it (R210 items 1 to 3).  An access that is not admitted gets a
bus error and changes no state of the block (R202; DEDUCED, log 4).  A `poll` stays at the head of the queue until its
condition holds (R86; DESIGN CHOICE, log 8). -/
def State.access (s : State) (rest : List HostAccess) : HostAccess → State
  | .read width off =>
    if admitted width off then (s.afterRead off).answered rest (.data (s.hostRead off))
    else s.answered rest .busError
  | .write width off v =>
    if admitted width off then (s.hostWrite off v).answered rest .ok else s.answered rest .busError
  | .poll off mask val =>
    if admitted .w32 off then
      (s.afterRead off).answered
        (if s.hostRead off &&& mask = val then rest else .poll off mask val :: rest) (.data (s.hostRead off))
    else s.answered rest .busError

/-- The host's step: its next access, or nothing when it has none (R227). -/
def State.hostStep (s : State) : State :=
  match s.hostQueue with
  | [] => s
  | acc :: rest => s.access rest acc

end Sys2Proof.Machine
end

