-- ==== Sys2Proof/Machine/Step.lean ====
section
/-! DEFINITION. One atomic step of the block and its environment (spec/60_exceptions.md R210), and the placing of a
command where the engine runs it next. -/

namespace Sys2Proof.Machine

/-- One step (R210): the agent the schedule names moves.  When the schedule is empty, the engine completes while
BUSY = 1 and the host moves otherwise, so every completion comes after finitely many steps (R226; DESIGN CHOICE,
log 3). -/
def step (s : State) : Host.Outcome State Fault Refusal :=
  match s.schedule with
  | .host :: q => .next (s.withSchedule q).hostStep
  | .engine :: q => engineStep (s.withSchedule q)
  | .powerOn :: q => .next (s.withSchedule q).powerOnReset
  | [] => if s.busy then engineStep s else .next s.hostStep

/-- The command word w issued (R193) and the engine's turn next (DESIGN CHOICE, log 6): the engine has no program
counter and no instruction memory (R22, R75), so the word in flight is where a step finds its command. -/
def State.withFetchWord (s : State) (nbits w : Nat) : State :=
  (s.issue (BitVec.ofNat 32 (tableWord nbits w))).withSchedule (.engine :: s.schedule)

end Sys2Proof.Machine
end

