-- ==== Sys2Proof/Machine/HostAsm.lean ====
section
/-! DEFINITION. The host assembly of spec/30_encoding.md: the statements (R86) as bus transactions, and the
pseudo-instructions (R87) as fixed sequences of statements.  REG is a `Target` of the register map. -/

namespace Sys2Proof.Machine

/-- `wr REG, v`: one 32-bit write at the offset of REG (R86). -/
def wr (r : Target) (v : Word) : HostAccess := .write .w32 (BitVec.ofNat 32 r.offset) v

/-- `rd REG`: one 32-bit read at the offset of REG (R86). -/
def rd (r : Target) : HostAccess := .read .w32 (BitVec.ofNat 32 r.offset)

/-- `poll REG, mask, val` (R86). -/
def pollReg (r : Target) (mask val : Word) : HostAccess := .poll (BitVec.ofNat 32 r.offset) mask val

/-- The pseudo-instructions (R87). -/
inductive Pseudo where
  | wait
  | ack
  | softReset
  | cmd (i : Instr)
  | keccakF
  | sha3Init
  | sha3Absorb (src len : Word)
  | sha3Final (dst : Word)
  | sha3Hash (dst src len : Word)
  | mgf1 (dst outlen src len : Word)
  | oaepEnc (dst k src len : Word)
  | oaepDec (dst k src : Word)
  | b64Enc (dst src len : Word)
  | b64Dec (dst src len : Word)
  | seed (w : Vector Word 8)
  | lmemStore (a : Nat) (bytes : List Byte)
  deriving DecidableEq, Repr

/-- `wait`: `poll STATUS, 0x1, 0x0` (R87). -/
def waitIdle : HostAccess := pollReg .status 0x1#32 0x0#32

/-- `cmd NAME; wait` (R87). -/
def issueAndWait (i : Instr) : List HostAccess := [wr .cmd (encode i), waitIdle]

/-- `wr LMEM+(a+4i), from_le(g)` for each 4-byte group g, the last zero-padded (R87). -/
def storeGroups (a : Nat) : List Byte → List HostAccess
  | [] => []
  | [b0] => [wr (.lmem a) (fromLe4 b0 0 0 0)]
  | [b0, b1] => [wr (.lmem a) (fromLe4 b0 b1 0 0)]
  | [b0, b1, b2] => [wr (.lmem a) (fromLe4 b0 b1 b2 0)]
  | b0 :: b1 :: b2 :: b3 :: rest => wr (.lmem a) (fromLe4 b0 b1 b2 b3) :: storeGroups (a + 4) rest

/-- The expansion of a pseudo-instruction (R87). -/
def Pseudo.expand : Pseudo → List HostAccess
  | .wait => [waitIdle]
  | .ack => [wr .status 0x0000000A#32]
  | .softReset => [wr .ctrl 0x80000000#32]
  | .cmd i => [wr .cmd (encode i)]
  | .keccakF => issueAndWait .keccakF
  | .sha3Init => issueAndWait .sha3Init
  | .sha3Absorb src len => [wr .srcAddr src, wr .srcLen len] ++ issueAndWait .sha3Absorb
  | .sha3Final dst => [wr .dstAddr dst] ++ issueAndWait .sha3Final
  | .sha3Hash dst src len => [wr .srcAddr src, wr .srcLen len, wr .dstAddr dst] ++ issueAndWait .sha3Hash
  | .mgf1 dst outlen src len =>
    [wr .srcAddr src, wr .srcLen len, wr .dstAddr dst, wr .outLen outlen] ++ issueAndWait .mgf1
  | .oaepEnc dst k src len =>
    [wr .srcAddr src, wr .srcLen len, wr .dstAddr dst, wr .kLen k] ++ issueAndWait .oaepEnc
  | .oaepDec dst k src => [wr .srcAddr src, wr .dstAddr dst, wr .kLen k] ++ issueAndWait .oaepDec
  | .b64Enc dst src len => [wr .srcAddr src, wr .srcLen len, wr .dstAddr dst] ++ issueAndWait .b64Enc
  | .b64Dec dst src len => [wr .srcAddr src, wr .srcLen len, wr .dstAddr dst] ++ issueAndWait .b64Dec
  | .seed w =>
    [wr (.seed 0) w[0], wr (.seed 1) w[1], wr (.seed 2) w[2], wr (.seed 3) w[3],
     wr (.seed 4) w[4], wr (.seed 5) w[5], wr (.seed 6) w[6], wr (.seed 7) w[7]]
  | .lmemStore a bytes => storeGroups a bytes

end Sys2Proof.Machine
end

