-- ==== Sys2Proof/Safety.lean ====
section
/-! DEFINITION. The terms claims are stated in: the invariant of the machine, the source's own formulation of SHA3-256
(spec/40_keccak_sha3.md R113), the generators of the Keccak tables (R109), and runs of the streaming sponge (R115). -/

namespace Sys2Proof.Machine

/-- What every step keeps.  The block's size is legal; LMEM is in canonical form and lists no address outside it; while a
command is in flight DONE, ERR and ERRCODE are 0 (R30) and CMD still holds its word (R31, R26); ERR and ERRCODE agree
(R194, R195); POS is 0 outside the ABSORB phase (R45, R46). -/
structure State.Inv (s : State) : Prop where
  size : MemBytesOk s.memBytes
  canonical : s.lmem.wf
  inside : s.lmem.within s.memBytes
  busyFlags : s.busy = true → s.done = false ∧ s.err = false ∧ s.errCode = .ok
  busyCmd : ∀ w, s.inFlight = some w → s.cmd = w
  errAgrees : s.err = true ↔ s.errCode ≠ .ok
  posIdle : s.phase ≠ .absorb → s.sponge.pos = 0

/-! ## The source's SHA3-256 (R113) -/

/-- The source's padding: 0x06 after the message, zeros up to a multiple of the rate, 0x80 ORed into the last byte. -/
def sourcePad (m : List Byte) : List Byte :=
  let p := m ++ [0x06#8] ++ zeros (135 - m.length % 136)
  p.set (p.length - 1) (p.getD (p.length - 1) 0#8 ||| 0x80#8)

/-- The little-endian 8-byte word at the start of a string (R101). -/
def leWord8 (b : List Byte) : Lane :=
  b.getD 7 0#8 ++ b.getD 6 0#8 ++ b.getD 5 0#8 ++ b.getD 4 0#8 ++ b.getD 3 0#8 ++ b.getD 2 0#8 ++ b.getD 1 0#8
    ++ b.getD 0 0#8

/-- "Absorb each 136-byte block into the first 17 lanes via XOR (little-endian 8-byte words)", then permute (R111). -/
def sourceAbsorbBlock (A : Lanes) (block : List Byte) : Lanes :=
  keccakF (.build fun x y =>
    if x + 5 * y < 17 then A.lane x y ^^^ leWord8 (block.drop (8 * (x + 5 * y))) else A.lane x y)

/-- The first n blocks of a padded message, absorbed in order. -/
def sourceAbsorb : Nat → Lanes → List Byte → Lanes
  | 0, A, _ => A
  | n + 1, A, p => sourceAbsorb n (sourceAbsorbBlock A (p.take 136)) (p.drop 136)

/-- SHA3-256 as the source words it: pad the message, absorb its blocks, read 32 bytes of the state. -/
def sourceSha3 (m : List Byte) : List Byte := (sourceAbsorb (m.length / 136 + 1) Lanes.zero (sourcePad m)).digest

/-! ## The generators of the constant tables (R109) -/

/-- One step of the LFSR: `R <- R << 1; if R[8] = 1 then R <- R ^ 0x171`. -/
def lfsrStep (r : BitVec 9) : BitVec 9 := if (r <<< 1).getLsbD 8 then (r <<< 1) ^^^ 0x171#9 else r <<< 1

/-- `n` steps of the LFSR from r. -/
def lfsrRun : Nat → BitVec 9 → BitVec 9
  | 0, r => r
  | n + 1, r => lfsrRun n (lfsrStep r)

/-- `rc(t)`: R[0] after t mod 255 steps from R = 1. -/
def lfsrBit (t : Nat) : Bool := (lfsrRun (t % 255) 1#9).getLsbD 0

/-- `RC[i] = Σ_{j=0..6} rc(j + 7i) · 2^(2^j − 1)`. -/
def generatedConstant (i : Nat) : Lane :=
  (List.range 7).foldl (fun acc j => if lfsrBit (j + 7 * i) then acc + (1#64 <<< (2 ^ j - 1)) else acc) 0#64

/-- The walk of the ρ offsets from (x, y): `r[x,y] <- ((t+1)(t+2)/2) mod 64`, then `(x, y) <- (y, (2x + 3y) mod 5)`, for n
steps from step t; each entry is (x, y, offset). -/
def offsetWalk : Nat → Nat → Nat → Nat → List (Nat × Nat × Nat)
  | 0, _, _, _ => []
  | n + 1, t, x, y => (x, y, (t + 1) * (t + 2) / 2 % 64) :: offsetWalk n (t + 1) y ((2 * x + 3 * y) % 5)

/-! ## Streaming (R115) -/

/-- From s to t, the pieces are absorbed one SHA3_ABSORB each, with anything before, between and after them that leaves
A, POS and PHASE as they are. -/
def streamRun : State → List (List Byte) → State → Prop
  | s, [], t => t.sponge = s.sponge ∧ t.phase = s.phase
  | s, m :: ms, t =>
    ∃ u v, u.sponge = s.sponge ∧ u.phase = s.phase ∧ u.valid u.src ∧ u.lmem.readBytes u.src.addr u.src.len = m ∧
      exec .sha3Absorb u = .next v ∧ streamRun v ms t

end Sys2Proof.Machine
end

