-- ==== Sys2Proof/Certificates/Slice0/Obligations.lean ====
section
/-! DEFINITION. The statements for the provers, each from the rules of spec/ that its docstring names. -/

open Sys2Proof Sys2Proof.Machine

/-! ## Reset, the step, and the whole machine -/

/-- The registers and the engine state right after reset (R50); nothing is said of LMEM, which the spec leaves
unspecified. -/
def Obligations.ResetHoldsTheStatedValues : Prop :=
  State.reset.ctrlWord = 0#32 ∧ State.reset.statusWord = 0#32 ∧ State.reset.cmd = 0#32 ∧
  State.reset.srcAddr = 0#32 ∧ State.reset.srcLen = 0#32 ∧ State.reset.dstAddr = 0#32 ∧
  State.reset.outLen = 0#32 ∧ State.reset.kLen = 0#32 ∧ State.reset.resultLen = 0#32 ∧
  State.reset.spongeWord = 0#32 ∧ State.reset.phase = .idle ∧ State.reset.sponge.pos = 0 ∧
  State.reset.sponge.a = .replicate 25 0#64 ∧ State.reset.digest = .replicate 8 0#32 ∧
  State.reset.seed = .replicate 8 0#32 ∧ State.reset.inFlight = none ∧ State.reset.opaqueLatched = false ∧
  State.reset.irq = false ∧ State.reset.regValue .id = 0x53484133#32

/-- The state after reset meets the invariant. -/
def Obligations.ResetMeetsTheInvariant : Prop := State.reset.Inv

/-- Every step keeps the invariant: LMEM in canonical form and inside MEM_BYTES, DONE, ERR and ERRCODE 0 while busy (R30),
CMD equal to the word in flight (R26, R31), ERR in step with ERRCODE (R194, R195), POS 0 outside ABSORB (R45, R46). -/
def Obligations.StepKeepsTheInvariant : Prop := ∀ s t : State, s.Inv → step s = .next t → t.Inv

/-- No step ends in a fault or a refusal: errors are reported, never taken (R190), and nothing stops or locks up on any
error (R192).  In particular no command reaches LMEM outside a region it has checked (R64). -/
def Obligations.NoStepStops : Prop := ∀ s : State, ∃ t, step s = .next t

/-- R197: an issued command ends in exactly one completion with one code; a completed command does not complete again;
a soft reset during a command wins: the command never completes and sets no DONE.  A step while busy leaves the command
in flight with DONE 0, or completes it, or abandons it to a reset; a step while idle sets no DONE. -/
def Obligations.EveryCommandCompletesOnce : Prop :=
  (∀ s : State, s.busy = true →
    ∃ t, engineStep s = .next t ∧ t.busy = false ∧ t.done = true ∧ (t.err = true ↔ t.errCode ≠ .ok) ∧
      engineStep t = .next t) ∧
  (∀ (s : State) (v : Word), s.busy = true → v.getLsbD 31 = true →
    (s.hostWrite 0x008#32 v).busy = false ∧ (s.hostWrite 0x008#32 v).done = false ∧
    engineStep (s.hostWrite 0x008#32 v) = .next (s.hostWrite 0x008#32 v)) ∧
  (∀ s t : State, s.Inv → s.busy = true → step s = .next t →
    (t.inFlight = s.inFlight ∧ t.done = false) ∨ (t.busy = false ∧ t.done = true) ∨
    (t.busy = false ∧ t.done = false ∧ t = t.resetRegs)) ∧
  (∀ s t : State, s.busy = false → step s = .next t → t.done = true → s.done = true)

/-- A command in flight is over after finitely many steps, whatever the host does meanwhile (R226): at most one step more
than the schedule is long.  The schedule is the model's own field (log 3). -/
def Obligations.CommandEndsWithinTheSchedule : Prop :=
  ∀ s : State, s.busy = true →
    ∃ n t, n ≤ s.schedule.length + 1 ∧ Host.Core.run Sys2Proof.core n s = .next t ∧ t.busy = false

/-- A step runs the decoded command: when the word in flight decodes to i and the engine moves, the step is exec of i.
The schedule is the model's own field (log 3).  A host turn is a host step, a power-on turn a power-on reset, and an
idle engine keeps all its state (R209).  A word placed by `withFetchWord` is run by the very next step. -/
def Obligations.StepRunsTheDecodedCommand : Prop :=
  (∀ (s : State) (w : Word) (i : Instr), s.inFlight = some w → decode w = .ok i →
    (s.schedule = [] → step s = exec i s) ∧
    (∀ q, s.schedule = .engine :: q → step s = exec i { s with schedule := q })) ∧
  (∀ (s : State) (q : List Turn),
    (s.schedule = .host :: q → step s = .next ({ s with schedule := q }).hostStep) ∧
    (s.schedule = .powerOn :: q → step s = .next ({ s with schedule := q }).powerOnReset) ∧
    (s.schedule = .engine :: q → s.inFlight = none → step s = .next { s with schedule := q })) ∧
  (∀ s : State, s.schedule = [] → s.inFlight = none → step s = .next s.hostStep) ∧
  (∀ s : State, s.hostQueue = [] → s.hostStep = s) ∧
  (∀ (s : State) (i : Instr), step (s.withFetchWord 32 (encode i).toNat) = exec i (s.issue (encode i)))

/-! ## Decoding -/

/-- R82: a word selects a command iff RSV = 0 and OP is in the table; the legal words are exactly the encodings. -/
def Obligations.DecodeFollowsTheOpcodeMap : Prop :=
  ∀ (w : Word) (i : Instr),
    (decode w = .ok i ↔ w.extractLsb' 8 24 = 0#24 ∧ (w.extractLsb' 0 8, i) ∈
      [(0x01#8, Instr.keccakF), (0x02#8, Instr.sha3Init), (0x03#8, Instr.sha3Absorb), (0x04#8, Instr.sha3Final),
       (0x05#8, Instr.sha3Hash), (0x10#8, Instr.mgf1), (0x20#8, Instr.oaepEnc), (0x21#8, Instr.oaepDec),
       (0x30#8, Instr.b64Enc), (0x31#8, Instr.b64Dec)]) ∧
    (decode w = .ok i ↔ w = encode i)

/-- A word of each family, written out from the opcode table, decodes to its command (R82). -/
def Obligations.SampleWordsDecode : Prop :=
  decode 0b00000000000000000000000000000001#32 = .ok .keccakF ∧
  decode 0b00000000000000000000000000000101#32 = .ok .sha3Hash ∧
  decode 0b00000000000000000000000000010000#32 = .ok .mgf1 ∧
  decode 0b00000000000000000000000000100001#32 = .ok .oaepDec ∧
  decode 0b00000000000000000000000000110000#32 = .ok .b64Enc

/-- R83, R198: a word is illegal iff RSV ≠ 0 or its OP is one of the unassigned values; it issues all the same, and then
completes with BAD_CMD whatever else is wrong, changing only RESULT_LEN and the STATUS fields. -/
def Obligations.IllegalWordsIssueAndFailWithBadCmd : Prop :=
  (∀ w : Word, (∃ e, decode w = .error e) ↔
    w.extractLsb' 8 24 ≠ 0#24 ∨
    (w.extractLsb' 0 8).toNat = 0x00 ∨
    (0x06 ≤ (w.extractLsb' 0 8).toNat ∧ (w.extractLsb' 0 8).toNat ≤ 0x0F) ∨
    (0x11 ≤ (w.extractLsb' 0 8).toNat ∧ (w.extractLsb' 0 8).toNat ≤ 0x1F) ∨
    (0x22 ≤ (w.extractLsb' 0 8).toNat ∧ (w.extractLsb' 0 8).toNat ≤ 0x2F) ∨
    (0x32 ≤ (w.extractLsb' 0 8).toNat ∧ (w.extractLsb' 0 8).toNat ≤ 0xFF)) ∧
  (∀ (s : State) (w : Word) (e : DecodeError), decode w = .error e → s.busy = false →
    (s.hostWrite 0x010#32 w).cmd = w ∧ (s.hostWrite 0x010#32 w).busy = true ∧
    (s.hostWrite 0x010#32 w).inFlight = some w) ∧
  (∀ (s : State) (w : Word) (e : DecodeError), decode w = .error e → s.inFlight = some w →
    engineStep s =
      .next { s with resultLen := 0#32, inFlight := none, done := true, err := true, errCode := .badCmd })

/-! ## Issue and completion -/

/-- R193: a write of v to CMD (offset 0x010) while idle issues v, leaving WBUSY, SEED_VALID and all else; while busy it is
dropped and issues nothing. -/
def Obligations.CmdWriteIssues : Prop :=
  ∀ (s : State) (v : Word),
    (s.busy = false → s.hostWrite 0x010#32 v =
      { s with
        cmd := v, inFlight := some v, opaqueLatched := s.opaqueErr, done := false, err := false, errCode := .ok }) ∧
    (s.busy = true → s.hostWrite 0x010#32 v = { s with wbusy := true })

/-- R195: the state after a failed command equals the state before it, except for RESULT_LEN and STATUS.BUSY, DONE, ERR
and ERRCODE; the code is the error's. -/
def Obligations.ErrorsArePrecise : Prop :=
  ∀ s t : State, s.busy = true → engineStep s = .next t → t.err = true →
    t.errCode ≠ .ok ∧
    t = { s with resultLen := 0#32, inFlight := none, done := true, err := true, errCode := t.errCode }

/-- R196: for each command, the checks in order; a check decides the code when every earlier one has passed. -/
def Obligations.FirstFailedCheckDecidesTheCode : Prop :=
  ∀ s : State,
    -- an illegal word: BAD_CMD, nothing else is checked
    (∀ w e, s.inFlight = some w → decode w = .error e → engineStep s = .next (s.failed .badCmd)) ∧
    -- KECCAK_F, SHA3_INIT: none
    (∃ t, exec .keccakF s = .next t ∧ t.err = false) ∧ (∃ t, exec .sha3Init s = .next t ∧ t.err = false) ∧
    -- SHA3_ABSORB: SEQ, SRC_RANGE
    (s.phase ≠ .absorb → exec .sha3Absorb s = .next (s.failed .seq)) ∧
    (s.phase = .absorb → ¬ s.valid s.src → exec .sha3Absorb s = .next (s.failed .srcRange)) ∧
    -- SHA3_FINAL: SEQ, DST_RANGE (32)
    (s.phase ≠ .absorb → exec .sha3Final s = .next (s.failed .seq)) ∧
    (s.phase = .absorb → ¬ s.valid (s.dst 32) → exec .sha3Final s = .next (s.failed .dstRange)) ∧
    -- SHA3_256: SRC_RANGE, DST_RANGE (32), OVERLAP
    (¬ s.valid s.src → exec .sha3Hash s = .next (s.failed .srcRange)) ∧
    (s.valid s.src → ¬ s.valid (s.dst 32) → exec .sha3Hash s = .next (s.failed .dstRange)) ∧
    (s.valid s.src → s.valid (s.dst 32) → s.src.overlaps (s.dst 32) →
      exec .sha3Hash s = .next (s.failed .overlap)) ∧
    -- MGF1: SRC_RANGE, DST_RANGE (OUT_LEN), OVERLAP
    (¬ s.valid s.src → exec .mgf1 s = .next (s.failed .srcRange)) ∧
    (s.valid s.src → ¬ s.valid (s.dst s.outLen.toNat) → exec .mgf1 s = .next (s.failed .dstRange)) ∧
    (s.valid s.src → s.valid (s.dst s.outLen.toNat) → s.src.overlaps (s.dst s.outLen.toNat) →
      exec .mgf1 s = .next (s.failed .overlap)) ∧
    -- OAEP_ENC: MSG_TOO_LONG, NO_SEED, SRC_RANGE, DST_RANGE (K_LEN), OVERLAP
    (s.kLen.toNat < s.srcLen.toNat + 66 → exec .oaepEnc s = .next (s.failed .msgTooLong)) ∧
    (s.srcLen.toNat + 66 ≤ s.kLen.toNat → s.seedValid = false → exec .oaepEnc s = .next (s.failed .noSeed)) ∧
    (s.srcLen.toNat + 66 ≤ s.kLen.toNat → s.seedValid = true → ¬ s.valid s.src →
      exec .oaepEnc s = .next (s.failed .srcRange)) ∧
    (s.srcLen.toNat + 66 ≤ s.kLen.toNat → s.seedValid = true → s.valid s.src → ¬ s.valid (s.dst s.kLen.toNat) →
      exec .oaepEnc s = .next (s.failed .dstRange)) ∧
    (s.srcLen.toNat + 66 ≤ s.kLen.toNat → s.seedValid = true → s.valid s.src → s.valid (s.dst s.kLen.toNat) →
      s.src.overlaps (s.dst s.kLen.toNat) → exec .oaepEnc s = .next (s.failed .overlap)) ∧
    -- OAEP_DEC: MOD_TOO_SMALL, SRC_RANGE (K_LEN), DST_RANGE (K_LEN − 66), OVERLAP, then the decoder's failure
    (s.kLen.toNat < 66 → exec .oaepDec s = .next (s.failed .modTooSmall)) ∧
    (66 ≤ s.kLen.toNat → ¬ s.valid s.srcBlock → exec .oaepDec s = .next (s.failed .srcRange)) ∧
    (66 ≤ s.kLen.toNat → s.valid s.srcBlock → ¬ s.valid (s.dst (s.kLen.toNat - 66)) →
      exec .oaepDec s = .next (s.failed .dstRange)) ∧
    (66 ≤ s.kLen.toNat → s.valid s.srcBlock → s.valid (s.dst (s.kLen.toNat - 66)) →
      s.srcBlock.overlaps (s.dst (s.kLen.toNat - 66)) → exec .oaepDec s = .next (s.failed .overlap)) ∧
    (66 ≤ s.kLen.toNat → s.valid s.srcBlock → s.valid (s.dst (s.kLen.toNat - 66)) →
      ¬ s.srcBlock.overlaps (s.dst (s.kLen.toNat - 66)) →
      ∀ e, oaepDecode (s.lmem.readBytes s.srcAddr.toNat s.kLen.toNat) s.kLen.toNat = .error e →
        (e = .labelMismatch ∨ e = .noSeparator ∨ e = .badSeparator) ∧
        exec .oaepDec s = .next (s.failed (if s.opaqueLatched then .decodeFail else e))) ∧
    -- B64_ENC: SRC_RANGE, DST_RANGE (4⌈n/3⌉), OVERLAP
    (¬ s.valid s.src → exec .b64Enc s = .next (s.failed .srcRange)) ∧
    (s.valid s.src → ¬ s.valid (s.dst (b64TextLen s.srcLen.toNat)) → exec .b64Enc s = .next (s.failed .dstRange)) ∧
    (s.valid s.src → s.valid (s.dst (b64TextLen s.srcLen.toNat)) →
      s.src.overlaps (s.dst (b64TextLen s.srcLen.toNat)) → exec .b64Enc s = .next (s.failed .overlap)) ∧
    -- B64_DEC: B64_LEN, SRC_RANGE, DST_RANGE (3L/4 − p), OVERLAP, then B64_PAD / B64_CHAR
    (s.srcLen.toNat % 4 ≠ 0 → exec .b64Dec s = .next (s.failed .b64Len)) ∧
    (s.srcLen.toNat % 4 = 0 → ¬ s.valid s.src → exec .b64Dec s = .next (s.failed .srcRange)) ∧
    (∀ text, text = s.lmem.readBytes s.srcAddr.toNat s.srcLen.toNat → s.srcLen.toNat % 4 = 0 → s.valid s.src →
      (¬ s.valid (s.dst (3 * s.srcLen.toNat / 4 - b64PadCount text)) →
        exec .b64Dec s = .next (s.failed .dstRange)) ∧
      (s.valid (s.dst (3 * s.srcLen.toNat / 4 - b64PadCount text)) →
        s.src.overlaps (s.dst (3 * s.srcLen.toNat / 4 - b64PadCount text)) →
        exec .b64Dec s = .next (s.failed .overlap)) ∧
      (s.valid (s.dst (3 * s.srcLen.toNat / 4 - b64PadCount text)) →
        ¬ s.src.overlaps (s.dst (3 * s.srcLen.toNat / 4 - b64PadCount text)) →
        ∀ e, b64Scan text = some e →
          (e = .b64Pad ∨ e = .b64Char) ∧ exec .b64Dec s = .next (s.failed e)))

/-- The table of R191: the number of each code, and which commands may raise it; no code above 15 is ever written. -/
def Obligations.ErrorCodesAndWhoRaisesThem : Prop :=
  ([ErrCode.ok, .badCmd, .seq, .srcRange, .dstRange, .overlap, .noSeed, .msgTooLong, .modTooSmall, .labelMismatch,
    .noSeparator, .badSeparator, .decodeFail, .b64Len, .b64Char, .b64Pad].map fun e => e.code.toNat) = List.range 16 ∧
  (∀ e : ErrCode, e.code.toNat < 16) ∧
  ∀ (i : Instr) (s t : State), exec i s = .next t → t.err = true →
    (i, t.errCode) ∈
      ([.sha3Absorb, .sha3Final].map fun c => (c, ErrCode.seq)) ++
      ([.sha3Absorb, .sha3Hash, .mgf1, .oaepEnc, .oaepDec, .b64Enc, .b64Dec].map fun c => (c, ErrCode.srcRange)) ++
      ([.sha3Final, .sha3Hash, .mgf1, .oaepEnc, .oaepDec, .b64Enc, .b64Dec].map fun c => (c, ErrCode.dstRange)) ++
      ([.sha3Hash, .mgf1, .oaepEnc, .oaepDec, .b64Enc, .b64Dec].map fun c => (c, ErrCode.overlap)) ++
      ([.noSeed, .msgTooLong].map fun e => (Instr.oaepEnc, e)) ++
      ([.modTooSmall, .labelMismatch, .noSeparator, .badSeparator, .decodeFail].map fun e => (Instr.oaepDec, e)) ++
      ([.b64Len, .b64Char, .b64Pad].map fun e => (Instr.b64Dec, e))

/-! ## What each command does -/

/-- KECCAK_F (R120): in every state it permutes A, leaves POS and PHASE, and completes with RESULT_LEN = 0. -/
def Obligations.KeccakFPermutesTheState : Prop :=
  ∀ s : State, exec .keccakF s =
    .next { s with
      sponge := { a := keccakF s.sponge.a, pos := s.sponge.pos },
      resultLen := 0#32, inFlight := none, done := true, err := false, errCode := .ok }

/-- SHA3_INIT (R121): in every state A <- 0, POS <- 0, PHASE <- ABSORB; SPONGE then reads 0x00000100 and every STATE word
0. -/
def Obligations.Sha3InitStartsAStream : Prop :=
  ∀ s : State, ∃ t, exec .sha3Init s = .next t ∧
    t = { s with
      sponge := { a := .replicate 25 0#64, pos := 0 }, phase := .absorb,
      resultLen := 0#32, inFlight := none, done := true, err := false, errCode := .ok } ∧
    t.regValue .sponge = 0x00000100#32 ∧ ∀ w, t.regValue (.state w) = 0#32

/-- SHA3_ABSORB (R122) in the ABSORB phase on a valid source: it absorbs the bytes in order and leaves
POS = (p + n) mod 136; an empty source changes neither A nor POS. -/
def Obligations.Sha3AbsorbAbsorbsTheSource : Prop :=
  ∀ s : State, s.phase = .absorb → s.valid s.src →
    exec .sha3Absorb s =
      .next { s with
        sponge := (s.lmem.readBytes s.srcAddr.toNat s.srcLen.toNat).foldl Sponge.absorbByte s.sponge,
        resultLen := 0#32, inFlight := none, done := true, err := false, errCode := .ok } ∧
    ((s.lmem.readBytes s.srcAddr.toNat s.srcLen.toNat).foldl Sponge.absorbByte s.sponge).pos.val =
      (s.sponge.pos.val + s.srcLen.toNat) % 136 ∧
    (s.srcLen = 0#32 →
      (s.lmem.readBytes s.srcAddr.toNat s.srcLen.toNat).foldl Sponge.absorbByte s.sponge = s.sponge)

/-- SHA3_FINAL (R123) in the ABSORB phase on a valid destination, from any A and POS: pad, permute, POS <- 0,
PHASE <- FINAL_DONE, and the digest in DIGEST0..7 and at DST_ADDR; STATE0..7 then read the same words as DIGEST0..7.
`Finalize()` byte by byte (R112): 0x06 into S[POS], 0x80 into S[135] (0x86 when POS = 135), one permutation, and the
digest is S[0..32), which DIGEST0..7 hold little-endian (R39). -/
def Obligations.Sha3FinalWritesTheDigest : Prop :=
  ∀ s : State, s.phase = .absorb → s.valid (s.dst 32) →
    ∃ t, exec .sha3Final s = .next t ∧
      t = { s with
        sponge := s.sponge.finalize, phase := .finalDone, digest := wordsOf32 s.sponge.finalize.a.digest,
        lmem := s.lmem.writeBytes s.dstAddr.toNat s.sponge.finalize.a.digest,
        resultLen := 32#32, inFlight := none, done := true, err := false, errCode := .ok } ∧
      t.sponge.pos = 0 ∧
      (∃ A : Lanes,
        (∀ k : Fin 200, A.getByte k =
          s.sponge.a.getByte k ^^^ (if k.val = s.sponge.pos.val then 0x06#8 else 0x00#8) ^^^
            (if k.val = 135 then 0x80#8 else 0x00#8)) ∧
        t.sponge.a = keccakF A) ∧
      s.sponge.finalize.a.digest.length = 32 ∧
      (∀ k : Fin 32, s.sponge.finalize.a.digest[k.val]? = some (t.sponge.a.getByte ⟨k.val, by omega⟩)) ∧
      (∀ (j : Fin 8) (b : Fin 4),
        t.digest[j].extractLsb' (8 * b.val) 8 = t.sponge.a.getByte ⟨4 * j.val + b.val, by omega⟩) ∧
      (s.lmem.wf → ∀ k : Fin 32, t.lmem.read (s.dstAddr.toNat + k.val) = t.sponge.a.getByte ⟨k.val, by omega⟩) ∧
      ∀ j : Fin 8, t.regValue (.digest j) = t.regValue (.state ⟨j.val, by omega⟩)

/-- SHA3_256 (R124), in every phase, on valid regions that do not overlap: the digest of the source in DIGEST0..7 and at
DST_ADDR; A, POS and PHASE stay. -/
def Obligations.Sha3HashWritesTheDigest : Prop :=
  ∀ s : State, s.valid s.src → s.valid (s.dst 32) → ¬ s.src.overlaps (s.dst 32) →
    exec .sha3Hash s =
      .next { s with
        digest := wordsOf32 (sha3 (s.lmem.readBytes s.srcAddr.toNat s.srcLen.toNat)),
        lmem := s.lmem.writeBytes s.dstAddr.toNat (sha3 (s.lmem.readBytes s.srcAddr.toNat s.srcLen.toNat)),
        resultLen := 32#32, inFlight := none, done := true, err := false, errCode := .ok }

/-- MGF1 (R142) on valid regions that do not overlap: the mask of OUT_LEN bytes at DST_ADDR. -/
def Obligations.Mgf1WritesTheMask : Prop :=
  ∀ s : State, s.valid s.src → s.valid (s.dst s.outLen.toNat) → ¬ s.src.overlaps (s.dst s.outLen.toNat) →
    exec .mgf1 s =
      .next { s with
        lmem := s.lmem.writeBytes s.dstAddr.toNat
          (mgf1 (s.lmem.readBytes s.srcAddr.toNat s.srcLen.toNat) s.outLen.toNat),
        resultLen := s.outLen, inFlight := none, done := true, err := false, errCode := .ok }

/-- OAEP_ENC (R150) with a message that fits, a valid seed, and valid regions that do not overlap: the block at DST_ADDR,
masked with SEED0..7, which are then cleared with SEED_VALID; RESULT_LEN = k. -/
def Obligations.OaepEncWritesTheBlock : Prop :=
  ∀ s : State, s.srcLen.toNat + 66 ≤ s.kLen.toNat → s.seedValid = true → s.valid s.src →
    s.valid (s.dst s.kLen.toNat) → ¬ s.src.overlaps (s.dst s.kLen.toNat) →
    exec .oaepEnc s =
      .next { s with
        lmem := s.lmem.writeBytes s.dstAddr.toNat
          (oaepEncode (s.lmem.readBytes s.srcAddr.toNat s.srcLen.toNat) s.kLen.toNat s.seedBytes),
        seed := .replicate 8 0#32, seedValid := false,
        resultLen := s.kLen, inFlight := none, done := true, err := false, errCode := .ok }

/-- OAEP_DEC (R151) with k ≥ 66 and valid regions that do not overlap, on a block that decodes to m: m at DST_ADDR,
RESULT_LEN = len(m) ≤ k − 66; SRC_LEN and CTRL.OPAQUE_ERR play no part. -/
def Obligations.OaepDecWritesTheMessage : Prop :=
  ∀ (s : State) (m : List Byte), 66 ≤ s.kLen.toNat → s.valid s.srcBlock → s.valid (s.dst (s.kLen.toNat - 66)) →
    ¬ s.srcBlock.overlaps (s.dst (s.kLen.toNat - 66)) →
    oaepDecode (s.lmem.readBytes s.srcAddr.toNat s.kLen.toNat) s.kLen.toNat = .ok m →
    m.length ≤ s.kLen.toNat - 66 ∧
    exec .oaepDec s =
      .next { s with
        lmem := s.lmem.writeBytes s.dstAddr.toNat m,
        resultLen := BitVec.ofNat 32 m.length, inFlight := none, done := true, err := false, errCode := .ok }

/-- B64_ENC (R176) on valid regions that do not overlap: the text of 4·⌈n/3⌉ characters at DST_ADDR. -/
def Obligations.B64EncWritesTheText : Prop :=
  ∀ s : State, s.valid s.src → s.valid (s.dst (4 * ((s.srcLen.toNat + 2) / 3))) →
    ¬ s.src.overlaps (s.dst (4 * ((s.srcLen.toNat + 2) / 3))) →
    exec .b64Enc s =
      .next { s with
        lmem := s.lmem.writeBytes s.dstAddr.toNat (b64Encode (s.lmem.readBytes s.srcAddr.toNat s.srcLen.toNat)),
        resultLen := BitVec.ofNat 32 (4 * ((s.srcLen.toNat + 2) / 3)),
        inFlight := none, done := true, err := false, errCode := .ok }

/-- B64_DEC (R177) on a text whose length is a multiple of 4, valid regions that do not overlap, and no bad character:
the 3L/4 − p decoded bytes at DST_ADDR. -/
def Obligations.B64DecWritesTheBytes : Prop :=
  ∀ (s : State) (text : List Byte), text = s.lmem.readBytes s.srcAddr.toNat s.srcLen.toNat →
    s.srcLen.toNat % 4 = 0 → s.valid s.src →
    s.valid (s.dst (3 * s.srcLen.toNat / 4 - b64PadCount text)) →
    ¬ s.src.overlaps (s.dst (3 * s.srcLen.toNat / 4 - b64PadCount text)) → b64Scan text = none →
    (b64Decode text).length = 3 * s.srcLen.toNat / 4 - b64PadCount text ∧
    exec .b64Dec s =
      .next { s with
        lmem := s.lmem.writeBytes s.dstAddr.toNat (b64Decode text),
        resultLen := BitVec.ofNat 32 (3 * s.srcLen.toNat / 4 - b64PadCount text),
        inFlight := none, done := true, err := false, errCode := .ok }

/-! ## Frames -/

/-- KECCAK_F, SHA3_INIT and SHA3_ABSORB store nothing (R81): every byte of LMEM reads as before, and DIGEST, SEED and
SEED_VALID stay. -/
def Obligations.SpongeCommandsStoreNothing : Prop :=
  ∀ (i : Instr) (s t : State), i = .keccakF ∨ i = .sha3Init ∨ i = .sha3Absorb → exec i s = .next t →
    (∀ a, t.lmem.read a = s.lmem.read a) ∧ t.digest = s.digest ∧ t.seed = s.seed ∧ t.seedValid = s.seedValid

/-- Every byte of LMEM outside the stored bytes reads as before (R81): the bytes stored start at DST_ADDR, and there are
32 of them, OUT_LEN, K_LEN, the length of the message, 4·⌈n/3⌉, or 3L/4 − p. -/
def Obligations.StoringCommandsChangeOnlyTheirBytes : Prop :=
  ∀ s t : State, s.lmem.wf →
    (∀ i n, (i, n) ∈ [(Instr.sha3Final, 32), (Instr.sha3Hash, 32), (Instr.mgf1, s.outLen.toNat),
        (Instr.oaepEnc, s.kLen.toNat), (Instr.b64Enc, b64TextLen s.srcLen.toNat),
        (Instr.b64Dec, b64DecodedLen (s.lmem.readBytes s.srcAddr.toNat s.srcLen.toNat))] →
      exec i s = .next t → ∀ a, ¬ (s.dst n).contains a → t.lmem.read a = s.lmem.read a) ∧
    (exec .oaepDec s = .next t →
      (∀ e, oaepDecode (s.lmem.readBytes s.srcAddr.toNat s.kLen.toNat) s.kLen.toNat = .error e →
        ∀ a, t.lmem.read a = s.lmem.read a) ∧
      (∀ m, oaepDecode (s.lmem.readBytes s.srcAddr.toNat s.kLen.toNat) s.kLen.toNat = .ok m →
        ∀ a, ¬ (s.dst m.length).contains a → t.lmem.read a = s.lmem.read a))

/-- The commands read the argument registers and never write them (R21), and no command writes CMD, CTRL, WBUSY,
*opaque_latched*, MEM_BYTES or the environment (R81). -/
def Obligations.CommandsKeepArgumentsAndControl : Prop :=
  ∀ (i : Instr) (s t : State), exec i s = .next t →
    t.srcAddr = s.srcAddr ∧ t.srcLen = s.srcLen ∧ t.dstAddr = s.dstAddr ∧ t.outLen = s.outLen ∧ t.kLen = s.kLen ∧
    t.cmd = s.cmd ∧ t.irqEn = s.irqEn ∧ t.opaqueErr = s.opaqueErr ∧ t.wbusy = s.wbusy ∧
    t.opaqueLatched = s.opaqueLatched ∧ t.memBytes = s.memBytes ∧ t.hostQueue = s.hostQueue ∧
    t.schedule = s.schedule ∧ t.response = s.response ∧ t.draws = s.draws

/-- R116: SHA3_256, MGF1, OAEP_ENC and OAEP_DEC never read or write A, POS, PHASE or DIGEST0..7, except that a successful
SHA3_256 writes DIGEST0..7. -/
def Obligations.PrivateContextsLeaveTheStreamAlone : Prop :=
  ∀ (i : Instr) (s t : State) (c : Sponge) (p : Phase) (d : Vector Word 8),
    i = .sha3Hash ∨ i = .mgf1 ∨ i = .oaepEnc ∨ i = .oaepDec → exec i s = .next t →
    t.sponge = s.sponge ∧ t.phase = s.phase ∧
    (¬ (i = .sha3Hash ∧ t.err = false) → t.digest = s.digest) ∧
    exec i { s with sponge := c, phase := p, digest := d } =
      .next { t with
        sponge := c, phase := p, digest := if i = .sha3Hash ∧ t.err = false then t.digest else d }

/-- R46: IDLE is 0, ABSORB is 1 and FINAL_DONE is 2; and the transitions of PHASE. -/
def Obligations.PhaseFollowsItsTable : Prop :=
  (Phase.code .idle = 0#2 ∧ Phase.code .absorb = 1#2 ∧ Phase.code .finalDone = 2#2) ∧
  State.reset.phase = .idle ∧
  ∀ (i : Instr) (s t : State), exec i s = .next t →
    (i = .sha3Init → t.phase = .absorb) ∧
    (i = .sha3Absorb → s.phase = .absorb → t.phase = .absorb) ∧
    (i = .sha3Final → s.phase = .absorb → t.err = false → t.phase = .finalDone) ∧
    (i = .sha3Absorb ∨ i = .sha3Final → s.phase ≠ .absorb → t.phase = s.phase ∧ t = s.failed .seq) ∧
    (i ≠ .sha3Init → i ≠ .sha3Absorb → i ≠ .sha3Final → t.phase = s.phase) ∧
    (t.err = true → t.phase = s.phase)

/-! ## The interrupt -/

/-- R199: IRQ = CTRL.IRQ_EN and STATUS.DONE; every completion sets DONE; a write of 1 to STATUS bit 1, a write of
IRQ_EN = 0, an issue and a reset each make IRQ 0; a dropped write does not raise it. -/
def Obligations.IrqIsEnableAndDone : Prop :=
  (∀ s : State, s.irq = (s.irqEn && s.done)) ∧
  (∀ s t : State, s.busy = true → engineStep s = .next t → t.done = true ∧ t.irq = s.irqEn) ∧
  (∀ (s : State) (v : Word), v.getLsbD 1 = true → (s.hostWrite 0x00C#32 v).irq = false) ∧
  (∀ (s : State) (v : Word), v.getLsbD 0 = false → (s.hostWrite 0x008#32 v).irq = false) ∧
  (∀ (s : State) (v : Word), s.busy = false → (s.hostWrite 0x010#32 v).irq = false) ∧
  (∀ s : State, s.softReset.irq = false ∧ s.powerOnReset.irq = false) ∧
  (∀ (s : State) (off v : Word), s.busy = true → off.toNat % 4 = 0 → off.toNat ≠ 0x008 → off.toNat ≠ 0x00C →
    (s.hostWrite off v).irq = s.irq)

/-! ## The host's accesses -/

/-- R26: writes while BUSY = 1.  CTRL and STATUS take effect; CMD, the argument registers, SEED, STATE and LMEM are dropped
and set WBUSY; an RO or reserved target is ignored. -/
def Obligations.BusyWritesAreDropped : Prop :=
  ∀ (s : State) (v : Word) (r : Target), s.busy = true →
    (r = .ctrl → v.getLsbD 31 = false →
      s.writeTarget v r = { s with irqEn := v.getLsbD 0, opaqueErr := v.getLsbD 1 }) ∧
    (r = .ctrl → v.getLsbD 31 = true → s.writeTarget v r = s.softReset) ∧
    (r = .status →
      s.writeTarget v r = { s with done := s.done && !v.getLsbD 1, wbusy := s.wbusy && !v.getLsbD 3 }) ∧
    (r = .cmd ∨ r = .srcAddr ∨ r = .srcLen ∨ r = .dstAddr ∨ r = .outLen ∨ r = .kLen ∨ (∃ j, r = .seed j) ∨
      (∃ w, r = .state w) ∨ (∃ a, r = .lmem a) → s.writeTarget v r = { s with wbusy := true }) ∧
    (r = .id ∨ r = .memSize ∨ r = .resultLen ∨ r = .sponge ∨ (∃ j, r = .digest j) ∨ r = .reserved →
      s.writeTarget v r = s)

/-- R49: reads while BUSY = 1.  RESULT_LEN, SPONGE, DIGEST, STATE and LMEM return an unspecified word, a fresh draw each
time, which only counts the draw; the others return their values exactly, SEED and reserved offsets read 0, and those
reads have no effect at all (R69). -/
def Obligations.BusyReads : Prop :=
  ∀ (s : State) (off : Word) (r : Target), s.busy = true → targetAt s.memBytes off.toNat = r →
    (r = .resultLen ∨ r = .sponge ∨ (∃ j, r = .digest j) ∨ (∃ w, r = .state w) ∨ (∃ a, r = .lmem a) →
      s.hostRead off = Config.freeWord s.draws ∧ s.afterRead off = { s with draws := s.draws + 1 }) ∧
    (r = .id → s.hostRead off = 0x53484133#32) ∧
    (r = .memSize → s.hostRead off = BitVec.ofNat 32 s.memBytes) ∧
    (r = .ctrl → s.hostRead off = s.ctrlWord) ∧ (r = .status → s.hostRead off = s.statusWord) ∧
    (r = .cmd → s.hostRead off = s.cmd) ∧ (r = .srcAddr → s.hostRead off = s.srcAddr) ∧
    (r = .srcLen → s.hostRead off = s.srcLen) ∧ (r = .dstAddr → s.hostRead off = s.dstAddr) ∧
    (r = .outLen → s.hostRead off = s.outLen) ∧ (r = .kLen → s.hostRead off = s.kLen) ∧
    ((∃ j, r = .seed j) ∨ r = .reserved → s.hostRead off = 0#32) ∧
    (r = .id ∨ r = .memSize ∨ r = .ctrl ∨ r = .status ∨ r = .cmd ∨ r = .srcAddr ∨ r = .srcLen ∨ r = .dstAddr ∨
      r = .outLen ∨ r = .kLen ∨ (∃ j, r = .seed j) ∨ r = .reserved → s.afterRead off = s)

/-- R48: while BUSY = 1 no access of the host, a soft reset apart, changes what the command in flight reads; the command's
completion afterwards writes what it would have written before, whatever the host wrote to CTRL. -/
def Obligations.HostCannotDisturbACommand : Prop :=
  ∀ (s u t : State), s.busy = true → u = s.hostStep → u.busy = true → engineStep s = .next t →
    (u.srcAddr = s.srcAddr ∧ u.srcLen = s.srcLen ∧ u.dstAddr = s.dstAddr ∧ u.outLen = s.outLen ∧ u.kLen = s.kLen ∧
      u.seed = s.seed ∧ u.sponge = s.sponge ∧ u.cmd = s.cmd ∧ u.lmem = s.lmem ∧ u.inFlight = s.inFlight ∧
      u.opaqueLatched = s.opaqueLatched) ∧
    ∃ t', engineStep u = .next t' ∧
      t'.sponge = t.sponge ∧ t'.phase = t.phase ∧ t'.digest = t.digest ∧ t'.seed = t.seed ∧
      t'.seedValid = t.seedValid ∧ t'.lmem = t.lmem ∧ t'.resultLen = t.resultLen ∧ t'.done = t.done ∧
      t'.err = t.err ∧ t'.errCode = t.errCode

/-- R202: an access that is not 32 bits wide, or at an offset that is not a multiple of 4, changes nothing of the block and
gets a bus error; a command in flight goes on. -/
def Obligations.UnadmittedAccessChangesNothing : Prop :=
  ∀ (s : State) (rest : List HostAccess) (width : AccessWidth) (off v : Word),
    width ≠ .w32 ∨ off.toNat % 4 ≠ 0 →
    s.access rest (.read width off) = { s with hostQueue := rest, response := .busError } ∧
    s.access rest (.write width off v) = { s with hostQueue := rest, response := .busError }

/-- An admitted access is answered: a read with the word at its offset, a write with its effect (R25).  The queue of
accesses and the recorded answer are the model's own fields (logs 3 and 4).  A `poll` repeats its read until the
condition holds (R86); that it reads once a step and stays the host's next access until then is the model's choice
(log 8).
While idle every read returns the register's value (R27 to R40, R42) and has no effect (R69), and a write to an argument
register stores v and changes nothing else (R24, R32 to R36).  A write to an RO or reserved target changes nothing, busy
or not (R24), and a reserved offset reads 0 (R25). -/
def Obligations.AdmittedAccessIsAnswered : Prop :=
  (∀ (s : State) (rest : List HostAccess) (off v mask val : Word), off.toNat % 4 = 0 →
    s.access rest (.read .w32 off) =
      { s.afterRead off with hostQueue := rest, response := .data (s.hostRead off) } ∧
    s.access rest (.write .w32 off v) = { s.hostWrite off v with hostQueue := rest, response := .ok } ∧
    (s.hostRead off &&& mask = val →
      s.access rest (.poll off mask val) =
        { s.afterRead off with hostQueue := rest, response := .data (s.hostRead off) }) ∧
    (s.hostRead off &&& mask ≠ val →
      s.access rest (.poll off mask val) =
        { s.afterRead off with
          hostQueue := .poll off mask val :: rest, response := .data (s.hostRead off) })) ∧
  (∀ s : State, s.busy = false →
    s.hostRead 0x000#32 = 0x53484133#32 ∧ s.hostRead 0x004#32 = BitVec.ofNat 32 s.memBytes ∧
    s.hostRead 0x008#32 = s.ctrlWord ∧ s.hostRead 0x00C#32 = s.statusWord ∧ s.hostRead 0x010#32 = s.cmd ∧
    s.hostRead 0x014#32 = s.srcAddr ∧ s.hostRead 0x018#32 = s.srcLen ∧ s.hostRead 0x01C#32 = s.dstAddr ∧
    s.hostRead 0x020#32 = s.outLen ∧ s.hostRead 0x024#32 = s.kLen ∧ s.hostRead 0x028#32 = s.resultLen ∧
    s.hostRead 0x02C#32 = s.spongeWord ∧
    (∀ j : Fin 8, s.hostRead (BitVec.ofNat 32 (0x040 + 4 * j.val)) = s.digest[j] ∧
      s.hostRead (BitVec.ofNat 32 (0x060 + 4 * j.val)) = 0#32) ∧
    (∀ w : Fin 50, s.hostRead (BitVec.ofNat 32 (0x100 + 4 * w.val)) =
      s.sponge.a[w.val / 2].extractLsb' (32 * (w.val % 2)) 32) ∧
    ∀ off : Word, s.afterRead off = s) ∧
  (∀ (s : State) (v : Word), s.busy = false →
    s.hostWrite 0x014#32 v = { s with srcAddr := v } ∧ s.hostWrite 0x018#32 v = { s with srcLen := v } ∧
    s.hostWrite 0x01C#32 v = { s with dstAddr := v } ∧ s.hostWrite 0x020#32 v = { s with outLen := v } ∧
    s.hostWrite 0x024#32 v = { s with kLen := v }) ∧
  (∀ (s : State) (off v : Word) (r : Target), targetAt s.memBytes off.toNat = r →
    (r = .id ∨ r = .memSize ∨ r = .resultLen ∨ r = .sponge ∨ (∃ j, r = .digest j) ∨ r = .reserved →
      s.hostWrite off v = s) ∧
    (r = .reserved → s.hostRead off = 0#32))

/-- The register map (R25), row by row; then both ways: every register and window word is found at its offset, and an
offset that is a multiple of 4 and names something is that thing's offset; every other one is reserved, reads 0 and
ignores writes. -/
def Obligations.RegisterMapRoundTrip : Prop :=
  ∀ n : Nat, MemBytesOk n →
    (targetAt n 0x000 = .id ∧ targetAt n 0x004 = .memSize ∧ targetAt n 0x008 = .ctrl ∧ targetAt n 0x00C = .status ∧
      targetAt n 0x010 = .cmd ∧ targetAt n 0x014 = .srcAddr ∧ targetAt n 0x018 = .srcLen ∧
      targetAt n 0x01C = .dstAddr ∧ targetAt n 0x020 = .outLen ∧ targetAt n 0x024 = .kLen ∧
      targetAt n 0x028 = .resultLen ∧ targetAt n 0x02C = .sponge ∧
      (∀ j : Fin 8, targetAt n (0x040 + 4 * j.val) = .digest j ∧ targetAt n (0x060 + 4 * j.val) = .seed j) ∧
      (∀ w : Fin 50, targetAt n (0x100 + 4 * w.val) = .state w) ∧
      ∀ a, a % 4 = 0 → a + 4 ≤ n → targetAt n (0x1000 + a) = .lmem a) ∧
    (∀ r : Target, r ≠ .reserved → (∀ a, r = .lmem a → a % 4 = 0 ∧ a + 4 ≤ n) →
      targetAt n r.offset = r ∧ r.offset % 4 = 0 ∧ r.offset < 2 ^ 32) ∧
    (∀ off : Nat, off % 4 = 0 → targetAt n off ≠ .reserved → (targetAt n off).offset = off) ∧
    (∀ off : Nat, targetAt n off = .reserved ↔
      (0x030 ≤ off ∧ off < 0x040) ∨ (0x080 ≤ off ∧ off < 0x100) ∨ (0x1C8 ≤ off ∧ off < 0x1000) ∨ 0x1000 + n ≤ off) ∧
    (∀ (s : State) (v : Word), s.regValue .reserved = 0#32 ∧ s.writeTarget v .reserved = s)

/-- The words CTRL, STATUS and SPONGE read as, field by field, and what a write to CTRL and STATUS does, busy or not (R29,
R30, R38). -/
def Obligations.ControlWordsShowTheirFields : Prop :=
  ∀ (s : State) (v : Word),
    (∀ k, s.ctrlWord.getLsbD k = ((k == 0 && s.irqEn) || (k == 1 && s.opaqueErr))) ∧
    (s.statusWord.getLsbD 0 = s.busy ∧ s.statusWord.getLsbD 1 = s.done ∧ s.statusWord.getLsbD 2 = s.err ∧
      s.statusWord.getLsbD 3 = s.wbusy ∧ s.statusWord.getLsbD 4 = s.seedValid ∧
      s.statusWord.extractLsb' 5 3 = 0#3 ∧ s.statusWord.extractLsb' 8 8 = s.errCode.code ∧
      s.statusWord.extractLsb' 16 16 = 0#16) ∧
    ((s.spongeWord.extractLsb' 0 8).toNat = s.sponge.pos.val ∧ s.spongeWord.extractLsb' 8 2 = s.phase.code ∧
      s.spongeWord.extractLsb' 10 22 = 0#22) ∧
    (v.getLsbD 31 = false →
      s.hostWrite 0x008#32 v = { s with irqEn := v.getLsbD 0, opaqueErr := v.getLsbD 1 }) ∧
    (v.getLsbD 31 = true → (s.hostWrite 0x008#32 v).regValue .ctrl = 0#32) ∧
    s.hostWrite 0x00C#32 v =
      { s with done := s.done && !v.getLsbD 1, wbusy := s.wbusy && !v.getLsbD 3 }

/-- R40, R41: SEEDj is at 0x060 + 4j and 0 after reset; a write to it while idle stores it, and sets SEED_VALID only for
j = 7; while busy it is dropped; SEEDj reads 0; seed byte 4j + b is bits 8b+7:8b of SEEDj; a successful OAEP_ENC clears
SEED and SEED_VALID, a failed one changes neither. -/
def Obligations.SeedIsInjectedAndConsumedOnce : Prop :=
  (∀ (n : Nat) (j : Fin 8), targetAt n (0x060 + 4 * j.val) = .seed j) ∧ State.reset.seed = .replicate 8 0#32 ∧
  (∀ (s : State) (j : Fin 8) (v : Word), s.busy = false →
    s.writeTarget v (.seed j) =
      { s with seed := s.seed.set j v, seedValid := if j = 7 then true else s.seedValid }) ∧
  (∀ (s : State) (j : Fin 8) (v : Word), s.busy = true → s.writeTarget v (.seed j) = { s with wbusy := true }) ∧
  (∀ (s : State) (j : Fin 8), s.regValue (.seed j) = 0#32) ∧
  (∀ (s : State) (j : Fin 8) (b : Fin 4),
    s.seedBytes[4 * j.val + b.val]? = some (s.seed[j].extractLsb' (8 * b.val) 8)) ∧
  (∀ s t : State, exec .oaepEnc s = .next t →
    (t.err = false → t.seedValid = false ∧ t.seed = .replicate 8 0#32) ∧
    (t.err = true → t.seedValid = s.seedValid ∧ t.seed = s.seed))

/-- R42: the STATE window at 0x100 + 4w, 0 after reset.  A write while idle replaces that half-lane, the low half for even
w, and changes no other, nor POS or PHASE; byte b of word w is byte 4w + b of the state's byte view; while busy a read is
unspecified and a write is dropped. -/
def Obligations.StateWindowIsTheKeccakState : Prop :=
  (∀ (n : Nat) (w : Fin 50), targetAt n (0x100 + 4 * w.val) = .state w ∧ State.reset.regValue (.state w) = 0#32) ∧
  (∀ (s : State) (w : Fin 50),
    s.regValue (.state w) = s.sponge.a[w.val / 2].extractLsb' (32 * (w.val % 2)) 32) ∧
  (∀ (s : State) (w w' : Fin 50) (v : Word), s.busy = false →
    (s.writeTarget v (.state w)).regValue (.state w') = if w' = w then v else s.regValue (.state w')) ∧
  (∀ (s : State) (w : Fin 50) (v : Word),
    (s.writeTarget v (.state w)).sponge.pos = s.sponge.pos ∧ (s.writeTarget v (.state w)).phase = s.phase) ∧
  (∀ (A : Lanes) (w : Fin 50) (b : Fin 4),
    (A.halfLane w).extractLsb' (8 * b.val) 8 = A.getByte ⟨4 * w.val + b.val, by omega⟩) ∧
  (∀ (s : State) (off v : Word) (w : Fin 50), s.busy = true → targetAt s.memBytes off.toNat = .state w →
    s.hostRead off = Config.freeWord s.draws ∧ s.hostWrite off v = { s with wbusy := true })

/-- R63: the LMEM window.  At offset 0x1000 + a, a a multiple of 4 and a + 4 ≤ MEM_BYTES, a read while idle returns the
four bytes at a little-endian; a write stores the four bytes of v, and every other byte reads as before; no other width
writes at all. -/
def Obligations.LmemWindowIsLittleEndian : Prop :=
  (∀ (s : State) (off : Word) (a : Nat), s.busy = false → off.toNat = 0x1000 + a → a % 4 = 0 → a + 4 ≤ s.memBytes →
    (∀ b : Fin 4, (s.hostRead off).extractLsb' (8 * b.val) 8 = s.lmem.read (a + b.val)) ∧
    ∀ v : Word, s.lmem.wf →
      (∀ b : Fin 4, (s.hostWrite off v).lmem.read (a + b.val) = v.extractLsb' (8 * b.val) 8) ∧
      (∀ x, ¬ (a ≤ x ∧ x < a + 4) → (s.hostWrite off v).lmem.read x = s.lmem.read x) ∧
      (s.hostWrite off v).hostRead off = v) ∧
  (∀ (s : State) (rest : List HostAccess) (width : AccessWidth) (off v : Word), width ≠ .w32 →
    (s.access rest (.write width off v)).lmem = s.lmem)

/-! ## Resets -/

/-- R221: a power-on reset sets every register, field and piece of engine state to its R50 value, and every byte of LMEM is
drawn once. -/
def Obligations.PowerOnResetsTheBlock : Prop :=
  ∀ (s : State) (q : List Turn), s.schedule = .powerOn :: q →
    ∃ t, step s = .next t ∧
      t.ctrlWord = 0#32 ∧ t.statusWord = 0#32 ∧ t.cmd = 0#32 ∧ t.srcAddr = 0#32 ∧ t.srcLen = 0#32 ∧
      t.dstAddr = 0#32 ∧ t.outLen = 0#32 ∧ t.kLen = 0#32 ∧ t.resultLen = 0#32 ∧
      t.digest = .replicate 8 0#32 ∧ t.seed = .replicate 8 0#32 ∧ t.sponge.a = .replicate 25 0#64 ∧
      t.sponge.pos = 0 ∧ t.phase = .idle ∧ t.inFlight = none ∧ t.opaqueLatched = false ∧
      t.regValue .id = 0x53484133#32 ∧ t.regValue .memSize = BitVec.ofNat 32 s.memBytes ∧
      t.memBytes = s.memBytes ∧ t.irq = false ∧
      ∀ a, a < s.memBytes → t.lmem.read a = Config.freeByte (s.draws + a)

/-- R222: a soft reset, busy or not, sets everything to its R221 value but LMEM.  The bytes of LMEM in the destination of
the command in flight are drawn, each its own draw; every other byte keeps its value; an illegal word has no
destination.  The destination of each command is the table's. -/
def Obligations.SoftResetKeepsLmemOutsideTheDestination : Prop :=
  (∀ (s : State) (v : Word), v.getLsbD 31 = true → s.lmem.wf →
    ∃ t, s.hostWrite 0x008#32 v = t ∧
      t.ctrlWord = 0#32 ∧ t.statusWord = 0#32 ∧ t.cmd = 0#32 ∧ t.srcAddr = 0#32 ∧ t.srcLen = 0#32 ∧
      t.dstAddr = 0#32 ∧ t.outLen = 0#32 ∧ t.kLen = 0#32 ∧ t.resultLen = 0#32 ∧
      t.digest = .replicate 8 0#32 ∧ t.seed = .replicate 8 0#32 ∧ t.sponge.a = .replicate 25 0#64 ∧
      t.sponge.pos = 0 ∧ t.phase = .idle ∧ t.inFlight = none ∧ t.opaqueLatched = false ∧
      t.memBytes = s.memBytes ∧ t.irq = false ∧
      (s.inFlight = none → ∀ a, t.lmem.read a = s.lmem.read a) ∧
      (∀ w e, s.inFlight = some w → decode w = .error e → ∀ a, t.lmem.read a = s.lmem.read a) ∧
      (∀ w i, s.inFlight = some w → decode w = .ok i → ∀ a,
        t.lmem.read a =
          if (s.dest i).contains a ∧ a < s.memBytes then Config.freeByte (s.draws + (a - (s.dest i).addr))
          else s.lmem.read a)) ∧
  (∀ s : State, s.dest .sha3Final = ⟨s.dstAddr.toNat, 32⟩ ∧ s.dest .sha3Hash = ⟨s.dstAddr.toNat, 32⟩ ∧
    s.dest .mgf1 = ⟨s.dstAddr.toNat, s.outLen.toNat⟩ ∧ s.dest .oaepEnc = ⟨s.dstAddr.toNat, s.kLen.toNat⟩ ∧
    s.dest .oaepDec = ⟨s.dstAddr.toNat, s.kLen.toNat - 66⟩ ∧
    s.dest .b64Enc = ⟨s.dstAddr.toNat, 4 * ((s.srcLen.toNat + 2) / 3)⟩ ∧
    s.dest .b64Dec = ⟨s.dstAddr.toNat, 3 * (s.srcLen.toNat / 4)⟩ ∧
    (s.dest .keccakF).len = 0 ∧ (s.dest .sha3Init).len = 0 ∧ (s.dest .sha3Absorb).len = 0)

/-! ## LMEM -/

/-- R64: on a valid region MemRead gives the region's bytes and MemWrite sets exactly the region's bytes; n = 0 reads the
empty string and writes nothing. -/
def Obligations.MemReadAndMemWriteAreByteExact : Prop :=
  (∀ (s : State) (addr n : Nat) (k : List Byte → Result), s.valid ⟨addr, n⟩ →
    ∃ v, s.memRead ⟨addr, n⟩ k = k v ∧ v.length = n ∧ ∀ i, i < n → v[i]? = some (s.lmem.read (addr + i))) ∧
  (∀ (s : State) (addr : Nat) (v : List Byte) (k : State → Result), s.valid ⟨addr, v.length⟩ → s.lmem.wf →
    ∃ m : Memory, s.memWrite addr v k = k { s with lmem := m } ∧ m.wf ∧
      ∀ a, m.read a = if addr ≤ a ∧ a < addr + v.length then v.getD (a - addr) 0#8 else s.lmem.read a) ∧
  (∀ (m : Memory) (addr : Nat), m.readBytes addr 0 = [] ∧ m.writeBytes addr [] = m)

/-- Regions overlap exactly when they share a byte (R66): touching regions and empty regions do not. -/
def Obligations.RegionsOverlapIffTheyShareAByte : Prop :=
  ∀ r q : Region, (r.overlaps q ↔ ∃ a, r.contains a ∧ q.contains a)

/-! ## Keccak -/

/-- R101: the byte view.  S[j] is bits 8b+7:8b of lane j div 8, b = j mod 8; a lane is its eight bytes little-endian; a
write of S[j] changes that byte and no other. -/
def Obligations.ByteViewOfTheState : Prop :=
  (∀ (A : Lanes) (j : Fin 200),
    A.getByte j = (A.lane (j.val / 8 % 5) (j.val / 8 / 5)).extractLsb' (8 * (j.val % 8)) 8) ∧
  (∀ (A : Lanes) (i : Fin 25),
    A[i] = A.getByte ⟨8 * i.val + 7, by omega⟩ ++ A.getByte ⟨8 * i.val + 6, by omega⟩ ++
      A.getByte ⟨8 * i.val + 5, by omega⟩ ++ A.getByte ⟨8 * i.val + 4, by omega⟩ ++
      A.getByte ⟨8 * i.val + 3, by omega⟩ ++ A.getByte ⟨8 * i.val + 2, by omega⟩ ++
      A.getByte ⟨8 * i.val + 1, by omega⟩ ++ A.getByte ⟨8 * i.val, by omega⟩) ∧
  (∀ (A : Lanes) (j k : Fin 200) (v : Byte),
    (A.setByte j v).getByte k = if k = j then v else A.getByte k)

/-- R102: rotl64 as shifts modulo 2^64, and v for n = 0; bit t of v becomes bit (t + n) mod 64; `~v` is 2^64 − 1 − v. -/
def Obligations.RotationMovesBitsUp : Prop :=
  (∀ (v : Lane) (n : Nat), 0 < n → n < 64 →
    (rotl64 v n).toNat = ((v.toNat <<< n) ||| (v.toNat >>> (64 - n))) % 2 ^ 64) ∧
  (∀ v : Lane, rotl64 v 0 = v ∧ (~~~v).toNat = 2 ^ 64 - 1 - v.toNat) ∧
  (∀ (v : Lane) (n t : Nat), n < 64 → t < 64 → (rotl64 v n).getLsbD ((t + n) % 64) = v.getLsbD t)

/-- R103, R106, R107: the steps θ, χ and ι, lane by lane, and the round constants. -/
def Obligations.ThetaChiIotaFormulas : Prop :=
  ∀ (A : Lanes) (x y : Nat), x < 5 → y < 5 →
    (theta A).lane x y = A.lane x y ^^^
      ((A.lane ((x + 4) % 5) 0 ^^^ A.lane ((x + 4) % 5) 1 ^^^ A.lane ((x + 4) % 5) 2 ^^^ A.lane ((x + 4) % 5) 3 ^^^
        A.lane ((x + 4) % 5) 4) ^^^
      rotl64 (A.lane ((x + 1) % 5) 0 ^^^ A.lane ((x + 1) % 5) 1 ^^^ A.lane ((x + 1) % 5) 2 ^^^
        A.lane ((x + 1) % 5) 3 ^^^ A.lane ((x + 1) % 5) 4) 1) ∧
    (chi A).lane x y = A.lane x y ^^^ (~~~(A.lane ((x + 1) % 5) y) &&& A.lane ((x + 2) % 5) y) ∧
    ∀ i, i < 24 → (iota i A).lane x y =
      if x = 0 ∧ y = 0 then
        A.lane 0 0 ^^^
          ([0x0000000000000001#64, 0x0000000000008082#64, 0x800000000000808A#64, 0x8000000080008000#64,
            0x000000000000808B#64, 0x0000000080000001#64, 0x8000000080008081#64, 0x8000000000008009#64,
            0x000000000000008A#64, 0x0000000000000088#64, 0x0000000080008009#64, 0x000000008000000A#64,
            0x000000008000808B#64, 0x800000000000008B#64, 0x8000000000008089#64, 0x8000000000008003#64,
            0x8000000000008002#64, 0x8000000000000080#64, 0x000000000000800A#64, 0x800000008000000A#64,
            0x8000000080008081#64, 0x8000000000008080#64, 0x0000000080000001#64, 0x8000000080008008#64].getD i 0#64)
      else A.lane x y

/-- R104, R105: the offsets r[x,y], row y = 0 first; ρ and π send lane (x, y), rotated by r[x,y], to lane
(y, 2x + 3y mod 5); as lane indices this is the rule's list. -/
def Obligations.RhoPiMovesEveryLane : Prop :=
  (List.range 25).map (fun i => rhoOffset (i % 5) (i / 5)) =
    [0, 1, 62, 28, 27, 36, 44, 6, 55, 20, 3, 10, 43, 25, 39, 41, 45, 15, 21, 8, 18, 2, 61, 56, 14] ∧
  (∀ (A : Lanes) (x y : Nat), x < 5 → y < 5 →
    (rhoPi A).lane y ((2 * x + 3 * y) % 5) = rotl64 (A.lane x y) (rhoOffset x y)) ∧
  (List.range 25).map (fun i => (laneIndex (i / 5) (2 * (i % 5) + 3 * (i / 5))).val) =
    [0, 10, 20, 5, 15, 16, 1, 11, 21, 6, 7, 17, 2, 12, 22, 23, 8, 18, 3, 13, 14, 24, 9, 19, 4]

/-- R108: the permutation is the 24 rounds ι ∘ χ ∘ ρπ ∘ θ in order, and it is a bijection on 1600-bit states. -/
def Obligations.KeccakFIsABijection : Prop :=
  (∀ A : Lanes, keccakF A = (List.range 24).foldl (fun B i => iota i (chi (rhoPi (theta B)))) A) ∧
  Function.Bijective keccakF

/-- R109: the round constants are the LFSR's, with no bit set but 0, 1, 3, 7, 15, 31 and 63; the rotation offsets are the
walk's, and the walk never reaches (0, 0). -/
def Obligations.TablesMatchTheirGenerators : Prop :=
  (∀ i : Fin 24, roundConstant i.val = generatedConstant i.val ∧
    roundConstant i.val &&& ~~~0x800000008000808B#64 = 0#64) ∧
  (offsetWalk 24 0 1 0).all (fun e => rhoOffset e.1 e.2.1 == e.2.2 && !(e.1 == 0 && e.2.1 == 0)) = true ∧
  (∀ p ∈ lanePairs, p = (0, 0) ∨ p ∈ (offsetWalk 24 0 1 0).map fun e => (e.1, e.2.1)) ∧ rhoOffset 0 0 = 0

/-! ## Hashing -/

/-- R113: bytewise absorption and finalising (R111, R112) give the state of the source's formulation: pad the message to
q + 1 blocks, OR 0x80 into the last byte, absorb the 136-byte blocks into the first 17 lanes.  So the digests agree. -/
def Obligations.BytewiseHashEqualsTheSourcesPadding : Prop :=
  ∀ m : List Byte,
    (sourcePad m).length = 136 * (m.length / 136 + 1) ∧
    (Sponge.init.absorb m).finalize.a = sourceAbsorb (m.length / 136 + 1) Lanes.zero (sourcePad m) ∧
    sha3 m = sourceSha3 m

/-- R115: SHA3_INIT, one SHA3_ABSORB for each piece (any piece may be empty), and SHA3_FINAL give the digest of the
concatenation, in DIGEST0..7 and at DST_ADDR, whatever happens in between that writes neither A nor POS nor PHASE; no
command but KECCAK_F and the three streaming ones writes them. -/
def Obligations.StreamingEqualsOneShot : Prop :=
  (∀ (s0 s1 s2 : State) (pieces : List (List Byte)),
    exec .sha3Init s0 = .next s1 → streamRun s1 pieces s2 → s2.valid (s2.dst 32) →
    ∃ t, exec .sha3Final s2 = .next t ∧ t.err = false ∧ t.digest = wordsOf32 (sha3 pieces.flatten) ∧
      t.lmem = s2.lmem.writeBytes s2.dstAddr.toNat (sha3 pieces.flatten)) ∧
  (∀ (i : Instr) (s t : State), i ≠ .keccakF → i ≠ .sha3Init → i ≠ .sha3Absorb → i ≠ .sha3Final →
    exec i s = .next t → t.sponge = s.sponge ∧ t.phase = s.phase)

/-- R140: byte j of MGF1(Z, L) is byte j mod 32 of SHA3_256(Z ‖ be32(j div 32)); L bytes are returned, and a shorter mask
is a prefix of a longer one.  be32(i) is the 4-byte big-endian encoding of i < 2^32 (R10, R141). -/
def Obligations.Mgf1ConcatenatesCounterDigests : Prop :=
  (∀ (z : List Byte) (n : Nat),
    (mgf1 z n).length = n ∧
    (∀ j, j < n → (mgf1 z n)[j]? = (sha3 (z ++ be32 (j / 32)))[j % 32]?) ∧
    (∀ n', n ≤ n' → mgf1 z n = (mgf1 z n').take n)) ∧
  ∀ i, i < 2 ^ 32 → (be32 i).map (·.toNat) = [i / 2 ^ 24, i / 2 ^ 16 % 256, i / 2 ^ 8 % 256, i % 256]

/-! ## OAEP -/

/-- R147: an encoded block has exactly k bytes, EM[0] = 0x00, EM[1..33) is the masked seed and EM[33..k) the masked DB; the
decoder does not check EM[0]. -/
def Obligations.EncodedBlockLayout : Prop :=
  ∀ (m seed : List Byte) (k : Nat), m.length + 66 ≤ k → seed.length = 32 →
    (oaepEncode m k seed).length = k ∧ (oaepEncode m k seed)[0]? = some 0x00#8 ∧
    ((oaepEncode m k seed).drop 1).take 32 =
      xorBytes seed (mgf1 (xorBytes (oaepDb m k) (mgf1 seed (k - 33))) 32) ∧
    (oaepEncode m k seed).drop 33 = xorBytes (oaepDb m k) (mgf1 seed (k - 33)) ∧
    ∀ b : Byte, oaepDecode (b :: (oaepEncode m k seed).drop 1) k = oaepDecode (oaepEncode m k seed) k

/-- The decoder does not examine EM[0] (R148): two blocks that differ only there decode alike. -/
def Obligations.DecoderIgnoresTheFirstByte : Prop :=
  ∀ (b c : Byte) (em : List Byte) (k : Nat), oaepDecode (b :: em) k = oaepDecode (c :: em) k

/-- R149: the two separator failures apart.  After the label check (R148) the bytes t after lHash decide: NO_SEPARATOR when
they are all zero, or there are none; BAD_SEPARATOR when the first non-zero one is not 0x01; otherwise the message is
what follows the 0x01.  When k = 66, t is one byte, which must be exactly 0x01. -/
def Obligations.SeparatorScanOutcomes : Prop :=
  (∀ (em : List Byte) (k : Nat),
    ((oaepRecoverDb em k).take 32 ≠ lHash → oaepDecode em k = .error .labelMismatch) ∧
    ((oaepRecoverDb em k).take 32 = lHash → oaepDecode em k = oaepUnpad ((oaepRecoverDb em k).drop 32)) ∧
    (em.length = 66 → k = 66 → ((oaepRecoverDb em k).drop 32).length = 1)) ∧
  ∀ t : List Byte,
    (oaepUnpad t = .error .noSeparator ↔ ∀ b ∈ t, b = 0#8) ∧
    (oaepUnpad t = .error .badSeparator ↔ ∃ n b rest, t = zeros n ++ b :: rest ∧ b ≠ 0#8 ∧ b ≠ 0x01#8) ∧
    (∀ m, oaepUnpad t = .ok m ↔ ∃ n, t = zeros n ++ 0x01#8 :: m) ∧
    (∀ b, t = [b] →
      (b = 0x01#8 → oaepUnpad t = .ok []) ∧ (b = 0#8 → oaepUnpad t = .error .noSeparator) ∧
      (b ≠ 0x01#8 → b ≠ 0#8 → oaepUnpad t = .error .badSeparator))

/-- R152: decoding an encoded block gives the message back, for every k, every message that fits and every 32-byte
seed. -/
def Obligations.OaepRoundTrip : Prop :=
  ∀ (m seed : List Byte) (k : Nat), m.length + 66 ≤ k → seed.length = 32 →
    oaepDecode (oaepEncode m k seed) k = .ok m

/-! ## Base64 -/

/-- R170: the alphabet, character by character; a byte has the value v iff it is the character of v < 64, so `=` and every
other byte have none.  R171: each group of three bytes, most significant bits first, is four characters of 6 bits; a
last group of one or two bytes is filled with zero bits and `=`.  R172: the encoded text has 4·⌈n/3⌉ characters, a
multiple of 4, and (3 − n mod 3) mod 3 trailing `=`. -/
def Obligations.EncodedTextLengthAndPadding : Prop :=
  ((List.range 64).map b64Chr =
      [0x41#8, 0x42#8, 0x43#8, 0x44#8, 0x45#8, 0x46#8, 0x47#8, 0x48#8, 0x49#8, 0x4A#8, 0x4B#8, 0x4C#8, 0x4D#8] ++
      [0x4E#8, 0x4F#8, 0x50#8, 0x51#8, 0x52#8, 0x53#8, 0x54#8, 0x55#8, 0x56#8, 0x57#8, 0x58#8, 0x59#8, 0x5A#8] ++
      [0x61#8, 0x62#8, 0x63#8, 0x64#8, 0x65#8, 0x66#8, 0x67#8, 0x68#8, 0x69#8, 0x6A#8, 0x6B#8, 0x6C#8, 0x6D#8] ++
      [0x6E#8, 0x6F#8, 0x70#8, 0x71#8, 0x72#8, 0x73#8, 0x74#8, 0x75#8, 0x76#8, 0x77#8, 0x78#8, 0x79#8, 0x7A#8] ++
      [0x30#8, 0x31#8, 0x32#8, 0x33#8, 0x34#8, 0x35#8, 0x36#8, 0x37#8, 0x38#8, 0x39#8, 0x2B#8, 0x2F#8] ∧
    (∀ (c : Byte) (v : Nat), b64Val c = some v ↔ v < 64 ∧ b64Chr v = c) ∧
    b64PadChar = 0x3D#8 ∧ b64Val 0x3D#8 = none) ∧
  (b64Encode [] = [] ∧
    (∀ (x : Byte) (v : BitVec 24), v = x ++ 0#16 →
      b64Encode [x] = [b64Chr (v.extractLsb' 18 6).toNat, b64Chr (v.extractLsb' 12 6).toNat, 0x3D#8, 0x3D#8]) ∧
    (∀ (x y : Byte) (v : BitVec 24), v = x ++ y ++ 0#8 →
      b64Encode [x, y] =
        [b64Chr (v.extractLsb' 18 6).toNat, b64Chr (v.extractLsb' 12 6).toNat, b64Chr (v.extractLsb' 6 6).toNat,
          0x3D#8]) ∧
    ∀ (x y z : Byte) (rest : List Byte) (v : BitVec 24), v = x ++ y ++ z →
      b64Encode (x :: y :: z :: rest) =
        [b64Chr (v.extractLsb' 18 6).toNat, b64Chr (v.extractLsb' 12 6).toNat, b64Chr (v.extractLsb' 6 6).toNat,
          b64Chr (v.extractLsb' 0 6).toNat] ++ b64Encode rest) ∧
  ∀ b : List Byte,
    (b64Encode b).length = 4 * ((b.length + 2) / 3) ∧ (b64Encode b).length % 4 = 0 ∧
    b64PadCount (b64Encode b) = (3 - b.length % 3) % 3 ∧
    ((b64Encode b).reverse.takeWhile (· = b64PadChar)).length = (3 - b.length % 3) % 3

/-- The pad count of a text (R173 item 2): its trailing `=`, at most two of them, and none in a text shorter than 4.  The
scan (R173 item 3): no error iff every character before the padding is in the alphabet; otherwise the
first one that is not decides, B64_PAD for `=` and B64_CHAR for any other byte. -/
def Obligations.FirstBadCharacterDecides : Prop :=
  ∀ s : List Byte,
    b64PadCount s = (if s.length < 4 then 0 else min 2 (s.reverse.takeWhile (· = 0x3D#8)).length) ∧
    (b64Scan s = none ↔ ∀ c ∈ s.take (s.length - b64PadCount s), (b64Val c).isSome) ∧
    (∀ e, b64Scan s = some e ↔
      ∃ i c, i < s.length - b64PadCount s ∧ s[i]? = some c ∧ b64Val c = none ∧
        (∀ j d, j < i → s[j]? = some d → (b64Val d).isSome) ∧
        e = if c = b64PadChar then .b64Pad else .b64Char)

/-- R174: a text that passes the checks decodes to 3L/4 − p bytes; those of a quad are the 24 bits of its four 6-bit values,
most significant first, where `=` counts as 0.  R175: decoding an encoded text passes every check and gives the bytes
back; the converse fails, as `QR==` shows. -/
def Obligations.Base64RoundTrip : Prop :=
  (∀ s : List Byte, s.length % 4 = 0 → b64Scan s = none →
    (b64Decode s).length = 3 * s.length / 4 - b64PadCount s ∧
    ∀ (i : Nat) (c0 c1 c2 c3 : Byte) (v : BitVec 24), i < 3 * s.length / 4 - b64PadCount s →
      s[4 * (i / 3)]? = some c0 → s[4 * (i / 3) + 1]? = some c1 → s[4 * (i / 3) + 2]? = some c2 →
      s[4 * (i / 3) + 3]? = some c3 →
      v = BitVec.ofNat 6 ((b64Val c0).getD 0) ++ BitVec.ofNat 6 ((b64Val c1).getD 0) ++
        BitVec.ofNat 6 ((b64Val c2).getD 0) ++ BitVec.ofNat 6 ((b64Val c3).getD 0) →
      (b64Decode s)[i]? = some (v.extractLsb' (16 - 8 * (i % 3)) 8)) ∧
  (∀ b : List Byte,
    (b64Encode b).length % 4 = 0 ∧ b64Scan (b64Encode b) = none ∧ b64Decode (b64Encode b) = b) ∧
  b64Scan [0x51#8, 0x52#8, 0x3D#8, 0x3D#8] = none ∧ b64Decode [0x51#8, 0x52#8, 0x3D#8, 0x3D#8] = [0x41#8] ∧
  b64Encode [0x41#8] = [0x51#8, 0x51#8, 0x3D#8, 0x3D#8]
end

