-- ==== Sys2Proof/Laws/Base64.lean ====
section
/-! SUPPORT. The Base64 codec: lengths, and the induction over groups of three and of four. -/

namespace Sys2Proof.Machine

@[simp] theorem b64Group_length (t : List Byte) : (b64Group t).length = 4 := rfl

/-- The text of n bytes has 4·⌈n/3⌉ characters (R172). -/
@[simp] theorem b64Encode_length (b : List Byte) : (b64Encode b).length = b64TextLen b.length := by
  induction b using b64Encode.induct with
  | case1 => rfl
  | case2 x => simp [b64Encode, b64TextLen]
  | case3 x y => simp [b64Encode, b64TextLen]
  | case4 x y z rest ih =>
    simp only [b64Encode, List.length_append, b64Group_length, ih, b64TextLen, List.length_cons]
    omega

@[simp] theorem b64Quad_length (c0 c1 c2 c3 : Byte) : (b64Quad c0 c1 c2 c3).length = 3 := rfl

@[simp] theorem b64Quads_length (s : List Byte) : (b64Quads s).length = 3 * (s.length / 4) := by
  induction s using b64Quads.induct with
  | case1 c0 c1 c2 c3 rest ih =>
    simp only [b64Quads, List.length_append, b64Quad_length, ih, List.length_cons]
    omega
  | case2 s h =>
    match s, h with
    | [], _ | [_], _ | [_, _], _ | [_, _, _], _ => simp [b64Quads]
    | c0 :: c1 :: c2 :: c3 :: rest, h => exact absurd rfl (h c0 c1 c2 c3 rest)

/-- B64_DEC writes exactly 3L/4 − p bytes (R174). -/
theorem b64Decode_length {s : List Byte} (h : s.length % 4 = 0) : (b64Decode s).length = b64DecodedLen s := by
  simp only [b64Decode, List.length_take, b64Quads_length, b64DecodedLen]
  omega

theorem b64PadCount_le (s : List Byte) : b64PadCount s ≤ 2 := by
  unfold b64PadCount
  split_ifs <;> omega

/-- The scan's errors are B64_PAD and B64_CHAR (R173). -/
theorem b64Scan_error {s : List Byte} {e : ErrCode} (h : b64Scan s = some e) : e = .b64Pad ∨ e = .b64Char := by
  simp only [b64Scan] at h
  split at h
  · simp at h
  · split_ifs at h <;> simp_all

end Sys2Proof.Machine
end

