-- ==== Sys2Proof/Laws/Bytes.lean ====
section
/-! SUPPORT. Byte strings: lengths, XOR, and the little-endian packing of words. -/

namespace Sys2Proof.Machine

@[simp] theorem leBytes4_length (v : Word) : (leBytes4 v).length = 4 := rfl
@[simp] theorem leBytes8_length (v : Lane) : (leBytes8 v).length = 8 := rfl
@[simp] theorem be32_length (i : Nat) : (be32 i).length = 4 := rfl
@[simp] theorem zeros_length (n : Nat) : (zeros n).length = n := by simp [zeros]

@[simp] theorem xorBytes_length (a b : List Byte) : (xorBytes a b).length = min a.length b.length := by
  simp [xorBytes]

/-- XOR with the same mask twice gives the string back, when the mask is as long. -/
theorem xorBytes_cancel {a b : List Byte} (h : a.length = b.length) : xorBytes (xorBytes a b) b = a := by
  induction a generalizing b with
  | nil => simp [xorBytes]
  | cons x a ih =>
    cases b with
    | nil => simp at h
    | cons y b =>
      have := ih (b := b) (by simpa using h)
      simp only [xorBytes, List.zipWith_cons_cons, List.cons.injEq] at this ⊢
      exact ⟨by rw [BitVec.xor_assoc]; simp, this⟩

/-- A word is the little-endian packing of its four bytes. -/
theorem fromLe4_leBytes4 (v : Word) :
    fromLe4 (v.extractLsb' 0 8) (v.extractLsb' 8 8) (v.extractLsb' 16 8) (v.extractLsb' 24 8) = v := by
  apply BitVec.eq_of_getLsbD_eq
  intro i hi
  simp only [fromLe4, BitVec.getLsbD_append, BitVec.getLsbD_extractLsb']
  split_ifs with h1 h2 h3
  · simp [h1]
  · rw [decide_eq_true h2, Bool.true_and]; congr 1; omega
  · rw [decide_eq_true h3, Bool.true_and]; congr 1; omega
  · rw [decide_eq_true (by omega), Bool.true_and]; congr 1; omega

/-- The bytes of a packed word are the bytes it was packed from. -/
theorem leBytes4_fromLe4 (b0 b1 b2 b3 : Byte) : leBytes4 (fromLe4 b0 b1 b2 b3) = [b0, b1, b2, b3] := by
  simp only [leBytes4, fromLe4, List.cons.injEq, and_true]
  refine ⟨?_, ?_, ?_, ?_⟩ <;>
  · apply BitVec.eq_of_getLsbD_eq
    intro i hi
    simp only [BitVec.getLsbD_append, BitVec.getLsbD_extractLsb', hi, decide_true, Bool.true_and]
    split_ifs <;> first | omega | (congr 1; omega)

@[simp] theorem bytesOfWords_length (w : Vector Word 8) : (bytesOfWords w).length = 32 := by
  simp [bytesOfWords, List.length_flatMap]

end Sys2Proof.Machine
end

