-- ==== Sys2Proof/Laws/Hash.lean ====
section
/-! SUPPORT. Absorbing, digests, MGF1 and OAEP: lengths, and absorbing in pieces. -/

namespace Sys2Proof.Machine

@[simp] theorem Sponge.absorb_nil (c : Sponge) : c.absorb [] = c := rfl

/-- Absorbing two strings one after the other is absorbing their concatenation (R111). -/
theorem Sponge.absorb_append (c : Sponge) (m n : List Byte) : c.absorb (m ++ n) = (c.absorb m).absorb n := by
  simp [Sponge.absorb, List.foldl_append]

@[simp] theorem Lanes.digest_length (A : Lanes) : A.digest.length = 32 := by simp [Lanes.digest]

/-- The digest is S[0..32) of the byte view (R112). -/
theorem Lanes.digest_getElem? (A : Lanes) (k : Fin 32) : A.digest[k.val]? = some (A.getByte ⟨k.val, by omega⟩) := by
  fin_cases k <;> rfl

@[simp] theorem sha3_length (m : List Byte) : (sha3 m).length = 32 := by simp [sha3]

@[simp] theorem lHash_length : lHash.length = 32 := by simp [lHash]

theorem length_flatMap_range_sha3 (z : List Byte) (n : Nat) :
    ((List.range n).flatMap fun i => sha3 (z ++ be32 i)).length = 32 * n := by
  simp [List.length_flatMap, Nat.mul_comm]

/-- MGF1 returns the requested number of bytes (R140). -/
@[simp] theorem mgf1_length (z : List Byte) (n : Nat) : (mgf1 z n).length = n := by
  rw [mgf1, List.length_take, length_flatMap_range_sha3]
  omega

/-- DB has k − 33 bytes (R146). -/
theorem oaepDb_length {m : List Byte} {k : Nat} (h : m.length + 66 ≤ k) : (oaepDb m k).length = k - 33 := by
  simp [oaepDb]
  omega

/-- The masked parts of an encoded block (R146). -/
theorem oaepEncode_eq (m : List Byte) (k : Nat) (seed : List Byte) :
    oaepEncode m k seed = 0x00#8 :: (xorBytes seed (mgf1 (xorBytes (oaepDb m k) (mgf1 seed (k - 33))) 32)
      ++ xorBytes (oaepDb m k) (mgf1 seed (k - 33))) := rfl

/-- An encoded block has exactly k bytes. -/
theorem oaepEncode_length {m : List Byte} {k : Nat} {seed : List Byte} (h : m.length + 66 ≤ k) (hs : seed.length = 32) :
    (oaepEncode m k seed).length = k := by
  simp [oaepEncode_eq, oaepDb_length h, hs]
  omega

/-- The decoder recovers the DB a block was masked from (R146, R148). -/
theorem oaepRecoverDb_masked {b : Byte} {db seed : List Byte} {k : Nat} (hd : db.length = k - 33)
    (hs : seed.length = 32) :
    oaepRecoverDb (b :: (xorBytes seed (mgf1 (xorBytes db (mgf1 seed (k - 33))) 32) ++ xorBytes db (mgf1 seed (k - 33)))) k
      = db := by
  have hm : (xorBytes seed (mgf1 (xorBytes db (mgf1 seed (k - 33))) 32)).length = 32 := by simp [hs]
  simp only [oaepRecoverDb, List.drop_succ_cons, List.drop_zero]
  rw [List.take_left' hm, List.drop_left' hm, List.take_of_length_le (by simp [hd]), xorBytes_cancel (by simp [hs]),
    xorBytes_cancel (by simp [hd])]

theorem oaepRecoverDb_length_le (em : List Byte) (k : Nat) : (oaepRecoverDb em k).length ≤ k - 33 := by
  simp [oaepRecoverDb]

theorem oaepUnpad_length {t m : List Byte} (h : oaepUnpad t = .ok m) : m.length + 1 ≤ t.length := by
  have hle := (List.dropWhile_suffix (l := t) fun b => decide (b = 0#8)).length_le
  simp only [oaepUnpad] at h
  split at h
  · simp at h
  · next b rest heq =>
    split_ifs at h
    cases h
    rw [heq] at hle
    simpa using hle

/-- A decoded message has at most k − 66 bytes (R151). -/
theorem oaepDecode_length {em m : List Byte} {k : Nat} (h : oaepDecode em k = .ok m) : m.length ≤ k - 66 := by
  simp only [oaepDecode] at h
  split_ifs at h
  have h1 := oaepUnpad_length h
  have h2 := oaepRecoverDb_length_le em k
  simp only [List.length_drop] at h1
  omega

/-- The decoder's failures are the three of R148. -/
theorem oaepDecode_error {em : List Byte} {k : Nat} {e : ErrCode} (h : oaepDecode em k = .error e) :
    e = .labelMismatch ∨ e = .noSeparator ∨ e = .badSeparator := by
  simp only [oaepDecode, oaepUnpad] at h
  repeat' split at h
  all_goals simp_all

end Sys2Proof.Machine
end

