-- ==== Sys2Proof/Laws/Keccak.lean ====
section
/-! SUPPORT. Lanes and bytes of the Keccak state: what a read returns after a write, and lane-wise construction. -/

namespace Sys2Proof.Machine

/-- Coordinates are taken mod 5. -/
theorem laneIndex_mod (x y : Nat) : laneIndex (x % 5) (y % 5) = laneIndex x y := by simp [laneIndex]

theorem laneIndex_eq_iff (x y x' y' : Nat) : laneIndex x y = laneIndex x' y' ↔ x % 5 = x' % 5 ∧ y % 5 = y' % 5 := by
  simp only [laneIndex, Fin.mk.injEq]
  omega

theorem Lanes.lane_mod (A : Lanes) (x y : Nat) : A.lane (x % 5) (y % 5) = A.lane x y := by
  simp only [Lanes.lane, laneIndex_mod]

theorem Lanes.lane_congr (A : Lanes) {x y x' y' : Nat} (hx : x % 5 = x' % 5) (hy : y % 5 = y' % 5) :
    A.lane x y = A.lane x' y' := by rw [← A.lane_mod x y, ← A.lane_mod x' y', hx, hy]

theorem Lanes.lane_setLane (A : Lanes) (x y : Nat) (v : Lane) (x' y' : Nat) :
    (A.setLane x y v).lane x' y' = if x % 5 = x' % 5 ∧ y % 5 = y' % 5 then v else A.lane x' y' := by
  simp only [Lanes.lane, Lanes.setLane, Fin.getElem_fin, Vector.getElem_set, ← Fin.ext_iff, laneIndex_eq_iff]

/-- A state built lane by lane has those lanes. -/
theorem Lanes.lane_build (f : Nat → Nat → Lane) (x y : Nat) : (Lanes.build f).lane x y = f (x % 5) (y % 5) := by
  rw [← Lanes.lane_mod]
  have hx : x % 5 < 5 := Nat.mod_lt _ (by decide)
  have hy : y % 5 < 5 := Nat.mod_lt _ (by decide)
  generalize x % 5 = a at hx
  generalize y % 5 = b at hy
  interval_cases a <;> interval_cases b <;> rfl

/-- Two states with the same 25 lanes are equal. -/
theorem Lanes.ext_lane {A B : Lanes} (h : ∀ x y, x < 5 → y < 5 → A.lane x y = B.lane x y) : A = B := by
  refine Vector.ext fun i hi => ?_
  have := h (i % 5) (i / 5) (Nat.mod_lt _ (by decide)) (by omega)
  have e : (laneIndex (i % 5) (i / 5)).val = i := by simp only [laneIndex]; omega
  simpa only [Lanes.lane, Fin.getElem_fin, e] using this

theorem byteMask_getLsbD (j : Nat) : (0xFF#64).getLsbD j = decide (j < 8) := by
  by_cases hj : j < 64
  · have h : ∀ j : Fin 64, (0xFF#64).getLsbD j = decide (j.val < 8) := by decide
    exact h ⟨j, hj⟩
  · rw [BitVec.getLsbD_of_ge _ _ (by omega)]
    simp only [false_eq_decide_iff]
    omega

/-- A byte of the state after a byte is written: S[j] has the new value, every other byte is as before. -/
theorem Lanes.getByte_setByte (A : Lanes) (j k : Fin 200) (v : Byte) :
    (A.setByte j v).getByte k = if k = j then v else A.getByte k := by
  have hj := j.isLt
  have hk := k.isLt
  apply BitVec.eq_of_getLsbD_eq
  intro i hi
  simp only [Lanes.getByte, Lanes.setByte, Vector.getElem_set]
  by_cases hl : j.val / 8 = k.val / 8
  · simp only [hl, if_true, BitVec.getLsbD_extractLsb', hi, decide_true, Bool.true_and, BitVec.getLsbD_or,
      BitVec.getLsbD_and, BitVec.getLsbD_not, byteMask_getLsbD, BitVec.getLsbD_shiftLeft, BitVec.getLsbD_setWidth,
      show 8 * (k.val % 8) + i < 64 by omega]
    by_cases hjk : k = j
    · subst hjk
      simp [hi, show i < 64 by omega]
    · have hne : k.val % 8 ≠ j.val % 8 := fun h => hjk (Fin.ext (by omega))
      rw [if_neg hjk, BitVec.getLsbD_extractLsb']
      rcases Nat.lt_or_gt_of_ne hne with h | h
      · simp [hi, show 8 * (k.val % 8) + i < 8 * (j.val % 8) by omega]
      · have h1 : ¬ (8 * (k.val % 8) + i < 8 * (j.val % 8)) := by omega
        have h2 : ¬ (8 * (k.val % 8) + i - 8 * (j.val % 8) < 8) := by omega
        simp [hi, h1, h2, BitVec.getLsbD_of_ge v _ (Nat.not_lt.1 h2)]
  · have hjk : k ≠ j := fun h => hl (by rw [h])
    simp [hl, hjk]

/-- XORing b into S[p] changes that byte and no other (R111, R112). -/
theorem Lanes.getByte_xorByte (A : Lanes) (p : Fin 136) (b : Byte) (k : Fin 200) :
    (A.xorByte p b).getByte k = A.getByte k ^^^ if k.val = p.val then b else 0#8 := by
  rw [Lanes.xorByte, Lanes.getByte_setByte]
  by_cases h : k.val = p.val
  · rw [if_pos h, if_pos (Fin.ext h), show rateIndex p = k from Fin.ext h.symm]
  · rw [if_neg h, if_neg (fun e => h (congrArg Fin.val e)), BitVec.xor_zero]

/-- Two states with the same 200 bytes are equal. -/
theorem Lanes.ext_getByte {A B : Lanes} (h : ∀ j, A.getByte j = B.getByte j) : A = B := by
  refine Vector.ext fun i hi => BitVec.eq_of_getLsbD_eq fun k hk => ?_
  have := congrArg (fun b : Byte => b.getLsbD (k % 8)) (h ⟨8 * i + k / 8, by omega⟩)
  simp only [Lanes.getByte, BitVec.getLsbD_extractLsb'] at this
  have h1 : (8 * i + k / 8) / 8 = i := by omega
  have h2 : 8 * ((8 * i + k / 8) % 8) + k % 8 = k := by omega
  simpa only [h1, h2, Nat.mod_lt k (show 0 < 8 by decide), decide_true, Bool.true_and] using this

end Sys2Proof.Machine
end

