-- ==== Sys2Proof/Laws/Memory.lean ====
section
/-! SUPPORT. The laws of LMEM: what a read returns after a write, that every operation keeps the canonical form, and that
memories in canonical form are equal when they read alike. -/

namespace Sys2Proof.Machine

theorem Memory.read_of_forall_lt {m : Memory} {a : Nat} (h : ∀ c ∈ m, a < c.1) : m.read a = unlistedByte := by
  induction m with
  | nil => rfl
  | cons c rest ih =>
    obtain ⟨k, b⟩ := c
    have hk : a < k := h (k, b) (by simp)
    rw [Memory.read, if_neg (by omega)]
    exact ih fun c hc => h c (by simp [hc])

theorem Memory.wf_tail {c : Host.Cell} {m : Memory} (h : Memory.wf (c :: m)) : m.wf :=
  ⟨(List.pairwise_cons.1 h.1).2, fun d hd => h.2 d (by simp [hd])⟩

theorem Memory.wf_head_lt {c : Host.Cell} {m : Memory} (h : Memory.wf (c :: m)) : ∀ d ∈ m, c.1 < d.1 :=
  (List.pairwise_cons.1 h.1).1

/-- A read after a write: the written byte at its address, every other address as before. -/
theorem Memory.read_write {m : Memory} (h : m.wf) (a : Nat) (v : Byte) (b : Nat) :
    (m.write a v).read b = if b = a then v else m.read b := by
  induction m with
  | nil => by_cases hv : v = unlistedByte <;> by_cases hb : b = a <;> simp_all [Memory.write, Memory.read]
  | cons c rest ih =>
    obtain ⟨k, w⟩ := c
    have hlt := Memory.wf_head_lt h
    have ih := ih (Memory.wf_tail h)
    by_cases h1 : a < k
    · have hmiss : Memory.read ((k, w) :: rest) a = unlistedByte :=
        Memory.read_of_forall_lt fun c hc => by
          rcases List.mem_cons.1 hc with rfl | hc
          · exact h1
          · exact h1.trans (hlt c hc)
      by_cases hv : v = unlistedByte
      · simp only [Memory.write, if_pos h1, if_pos hv]
        by_cases hb : b = a
        · simp [hb, hmiss, hv]
        · simp [hb]
      · simp only [Memory.write, if_pos h1, if_neg hv]
        rw [Memory.read]
    · by_cases h2 : a = k
      · subst h2
        by_cases hv : v = unlistedByte
        · simp only [Memory.write, if_neg h1, if_pos hv, if_true]
          by_cases hb : b = a
          · subst hb; simp [hv, Memory.read_of_forall_lt hlt]
          · simp [hb, Memory.read]
        · simp only [Memory.write, if_neg h1, if_neg hv, if_true, Memory.read]
          by_cases hb : b = a <;> simp [hb]
      · simp only [Memory.write, if_neg h1, if_neg h2, Memory.read, ih]
        by_cases hb : b = k
        · subst hb; simp [Ne.symm h2]
        · simp [hb]

theorem Memory.mem_write {m : Memory} {a : Nat} {v : Byte} {c : Host.Cell} (hc : c ∈ m.write a v) :
    c ∈ m ∨ c = (a, v) ∧ v ≠ unlistedByte := by
  induction m with
  | nil => by_cases hv : v = unlistedByte <;> simp_all [Memory.write]
  | cons d rest ih =>
    obtain ⟨k, w⟩ := d
    simp only [Memory.write] at hc
    split_ifs at hc with h1 h2 h3 h4 <;> simp only [List.mem_cons] at hc ⊢ <;> tauto

/-- A write keeps the canonical form. -/
theorem Memory.wf_write {m : Memory} (h : m.wf) (a : Nat) (v : Byte) : (m.write a v).wf := by
  refine ⟨?_, fun c hc => ?_⟩
  · induction m with
    | nil => by_cases hv : v = unlistedByte <;> simp [Memory.write, hv]
    | cons d rest ih =>
      obtain ⟨k, w⟩ := d
      have hlt := Memory.wf_head_lt h
      have hp := (List.pairwise_cons.1 h.1).2
      have ih := ih (Memory.wf_tail h)
      simp only [Memory.write]
      split_ifs with h1 h2 h3 h4
      · exact h.1
      · refine List.pairwise_cons.2 ⟨fun c hc => ?_, h.1⟩
        rcases List.mem_cons.1 hc with rfl | hc
        · exact h1
        · exact h1.trans (hlt c hc)
      · exact hp
      · exact List.pairwise_cons.2 ⟨fun c hc => h3 ▸ hlt c hc, hp⟩
      · refine List.pairwise_cons.2 ⟨fun c hc => ?_, ih⟩
        rcases Memory.mem_write hc with hc | ⟨rfl, -⟩
        · exact hlt c hc
        · change k < a
          omega
  · rcases Memory.mem_write hc with hc | ⟨rfl, hv⟩
    · exact h.2 c hc
    · exact hv

/-- A write inside LMEM lists no address outside it. -/
theorem Memory.within_write {m : Memory} {size : Nat} (h : m.within size) {a : Nat} (ha : a < size) (v : Byte) :
    (m.write a v).within size := fun c hc => by
  rcases Memory.mem_write hc with hc | ⟨rfl, -⟩
  · exact h c hc
  · exact ha

theorem Memory.wf_nil : Memory.wf [] := ⟨.nil, by simp⟩

theorem Memory.within_nil (size : Nat) : Memory.within [] size := by simp [Memory.within]

@[simp] theorem Memory.readBytes_length (m : Memory) (addr n : Nat) : (m.readBytes addr n).length = n := by
  induction n generalizing addr with
  | zero => rfl
  | succ n ih => simp [Memory.readBytes, ih]

/-- Byte i of a string read is the byte at addr + i. -/
theorem Memory.readBytes_getD (m : Memory) (addr n i : Nat) (d : Byte) (hi : i < n) :
    (m.readBytes addr n).getD i d = m.read (addr + i) := by
  induction n generalizing addr i with
  | zero => omega
  | succ n ih =>
    cases i with
    | zero => simp [Memory.readBytes]
    | succ i => simpa [Memory.readBytes, Nat.add_assoc, Nat.add_comm 1] using ih (addr + 1) i (by omega)

theorem Memory.wf_writeBytes {m : Memory} (h : m.wf) (addr : Nat) (v : List Byte) : (m.writeBytes addr v).wf := by
  induction v generalizing m addr with
  | nil => exact h
  | cons b v ih => exact ih (Memory.wf_write h addr b) (addr + 1)

theorem Memory.within_writeBytes {m : Memory} {size : Nat} (h : m.within size) {addr : Nat} {v : List Byte}
    (hv : v = [] ∨ addr + v.length ≤ size) : (m.writeBytes addr v).within size := by
  induction v generalizing m addr with
  | nil => exact h
  | cons b v ih =>
    have hv : addr + (v.length + 1) ≤ size := by simpa using hv
    exact ih (Memory.within_write h (by omega) b) (.inr (by omega))

/-- What reads as what after a string is written: exactly its bytes change. -/
theorem Memory.read_writeBytes {m : Memory} (h : m.wf) (addr : Nat) (v : List Byte) (a : Nat) :
    (m.writeBytes addr v).read a = if addr ≤ a ∧ a < addr + v.length then v.getD (a - addr) 0#8 else m.read a := by
  induction v generalizing m addr with
  | nil => rw [if_neg (by simp)]; rfl
  | cons b v ih =>
    rw [Memory.writeBytes, ih (Memory.wf_write h addr b), Memory.read_write h]
    by_cases ha : a = addr
    · subst ha; simp
    · by_cases h1 : addr + 1 ≤ a ∧ a < addr + 1 + v.length
      · have h2 : addr ≤ a ∧ a < addr + (b :: v).length := by simp; omega
        rw [if_pos h1, if_pos h2, show a - addr = (a - (addr + 1)) + 1 by omega, List.getD_cons_succ]
      · have h2 : ¬ (addr ≤ a ∧ a < addr + (b :: v).length) := by simp; omega
        rw [if_neg h1, if_neg h2, if_neg ha]

/-- A byte outside a written string reads as before. -/
theorem Memory.read_writeBytes_of_not {m : Memory} (h : m.wf) {addr : Nat} {v : List Byte} {a : Nat}
    (ha : ¬ (addr ≤ a ∧ a < addr + v.length)) : (m.writeBytes addr v).read a = m.read a := by
  rw [Memory.read_writeBytes h, if_neg ha]

/-- Reading back a string just written. -/
theorem Memory.readBytes_writeBytes {m : Memory} (h : m.wf) (addr : Nat) (v : List Byte) :
    (m.writeBytes addr v).readBytes addr v.length = v := by
  refine List.ext_getElem (by simp) fun i h1 h2 => ?_
  have hi : i < v.length := h2
  have := Memory.readBytes_getD (m.writeBytes addr v) addr v.length i 0#8 hi
  rw [Memory.read_writeBytes h, if_pos (by omega), Nat.add_sub_cancel_left] at this
  rwa [List.getD_eq_getElem _ _ h1, List.getD_eq_getElem _ _ hi] at this

/-- Memories in canonical form that read alike are equal data. -/
theorem Memory.ext_of_wf {m n : Memory} (hm : m.wf) (hn : n.wf) (h : ∀ a, m.read a = n.read a) : m = n := by
  induction m generalizing n with
  | nil =>
    cases n with
    | nil => rfl
    | cons d n =>
      have := h d.1
      rw [show Memory.read (d :: n) d.1 = d.2 by obtain ⟨k, b⟩ := d; simp [Memory.read]] at this
      exact absurd this.symm (hn.2 d (by simp))
  | cons c m ih =>
    have hc : Memory.read (c :: m) c.1 = c.2 := by obtain ⟨k, b⟩ := c; simp [Memory.read]
    cases n with
    | nil => exact absurd (hc ▸ h c.1) (hm.2 c (by simp))
    | cons d n =>
      have hd : Memory.read (d :: n) d.1 = d.2 := by obtain ⟨k, b⟩ := d; simp [Memory.read]
      have key : c.1 = d.1 := by
        rcases lt_trichotomy c.1 d.1 with hlt | heq | hgt
        · have : Memory.read (d :: n) c.1 = unlistedByte := Memory.read_of_forall_lt fun e he => by
            rcases List.mem_cons.1 he with rfl | he
            · exact hlt
            · exact hlt.trans (Memory.wf_head_lt hn e he)
          exact absurd (by rw [← hc, h, this]) (hm.2 c (by simp))
        · exact heq
        · have : Memory.read (c :: m) d.1 = unlistedByte := Memory.read_of_forall_lt fun e he => by
            rcases List.mem_cons.1 he with rfl | he
            · exact hgt
            · exact hgt.trans (Memory.wf_head_lt hm e he)
          exact absurd (by rw [← hd, ← h, this]) (hn.2 d (by simp))
      have hval : c.2 = d.2 := by rw [← hc, h, key, hd]
      have hcd : c = d := Prod.ext key hval
      subst hcd
      congr 1
      refine ih (Memory.wf_tail hm) (Memory.wf_tail hn) fun a => ?_
      by_cases ha : a = c.1
      · subst ha
        rw [Memory.read_of_forall_lt (Memory.wf_head_lt hm), Memory.read_of_forall_lt (Memory.wf_head_lt hn)]
      · have := h a
        obtain ⟨k, b⟩ := c
        simpa [Memory.read, ha] using this

end Sys2Proof.Machine
end

