-- ==== Sys2Proof/Laws/State.lean ====
section
/-! SUPPORT. What every named update of State does to every field, one lemma per field per update, each true by rfl. -/

namespace Sys2Proof.Machine

variable (s : State)

/-! ## issueFlags -/

@[simp] theorem State.issueFlags_memBytes : (s.issueFlags).memBytes = s.memBytes := rfl
@[simp] theorem State.issueFlags_irqEn : (s.issueFlags).irqEn = s.irqEn := rfl
@[simp] theorem State.issueFlags_opaqueErr : (s.issueFlags).opaqueErr = s.opaqueErr := rfl
@[simp] theorem State.issueFlags_done : (s.issueFlags).done = false := rfl
@[simp] theorem State.issueFlags_err : (s.issueFlags).err = false := rfl
@[simp] theorem State.issueFlags_wbusy : (s.issueFlags).wbusy = s.wbusy := rfl
@[simp] theorem State.issueFlags_seedValid : (s.issueFlags).seedValid = s.seedValid := rfl
@[simp] theorem State.issueFlags_errCode : (s.issueFlags).errCode = .ok := rfl
@[simp] theorem State.issueFlags_cmd : (s.issueFlags).cmd = s.cmd := rfl
@[simp] theorem State.issueFlags_srcAddr : (s.issueFlags).srcAddr = s.srcAddr := rfl
@[simp] theorem State.issueFlags_srcLen : (s.issueFlags).srcLen = s.srcLen := rfl
@[simp] theorem State.issueFlags_dstAddr : (s.issueFlags).dstAddr = s.dstAddr := rfl
@[simp] theorem State.issueFlags_outLen : (s.issueFlags).outLen = s.outLen := rfl
@[simp] theorem State.issueFlags_kLen : (s.issueFlags).kLen = s.kLen := rfl
@[simp] theorem State.issueFlags_resultLen : (s.issueFlags).resultLen = s.resultLen := rfl
@[simp] theorem State.issueFlags_digest : (s.issueFlags).digest = s.digest := rfl
@[simp] theorem State.issueFlags_seed : (s.issueFlags).seed = s.seed := rfl
@[simp] theorem State.issueFlags_sponge : (s.issueFlags).sponge = s.sponge := rfl
@[simp] theorem State.issueFlags_phase : (s.issueFlags).phase = s.phase := rfl
@[simp] theorem State.issueFlags_inFlight : (s.issueFlags).inFlight = s.inFlight := rfl
@[simp] theorem State.issueFlags_opaqueLatched : (s.issueFlags).opaqueLatched = s.opaqueLatched := rfl
@[simp] theorem State.issueFlags_lmem : (s.issueFlags).lmem = s.lmem := rfl
@[simp] theorem State.issueFlags_hostQueue : (s.issueFlags).hostQueue = s.hostQueue := rfl
@[simp] theorem State.issueFlags_schedule : (s.issueFlags).schedule = s.schedule := rfl
@[simp] theorem State.issueFlags_response : (s.issueFlags).response = s.response := rfl
@[simp] theorem State.issueFlags_draws : (s.issueFlags).draws = s.draws := rfl

/-! ## successFlags -/

@[simp] theorem State.successFlags_memBytes : (s.successFlags).memBytes = s.memBytes := rfl
@[simp] theorem State.successFlags_irqEn : (s.successFlags).irqEn = s.irqEn := rfl
@[simp] theorem State.successFlags_opaqueErr : (s.successFlags).opaqueErr = s.opaqueErr := rfl
@[simp] theorem State.successFlags_done : (s.successFlags).done = true := rfl
@[simp] theorem State.successFlags_err : (s.successFlags).err = false := rfl
@[simp] theorem State.successFlags_wbusy : (s.successFlags).wbusy = s.wbusy := rfl
@[simp] theorem State.successFlags_seedValid : (s.successFlags).seedValid = s.seedValid := rfl
@[simp] theorem State.successFlags_errCode : (s.successFlags).errCode = .ok := rfl
@[simp] theorem State.successFlags_cmd : (s.successFlags).cmd = s.cmd := rfl
@[simp] theorem State.successFlags_srcAddr : (s.successFlags).srcAddr = s.srcAddr := rfl
@[simp] theorem State.successFlags_srcLen : (s.successFlags).srcLen = s.srcLen := rfl
@[simp] theorem State.successFlags_dstAddr : (s.successFlags).dstAddr = s.dstAddr := rfl
@[simp] theorem State.successFlags_outLen : (s.successFlags).outLen = s.outLen := rfl
@[simp] theorem State.successFlags_kLen : (s.successFlags).kLen = s.kLen := rfl
@[simp] theorem State.successFlags_resultLen : (s.successFlags).resultLen = s.resultLen := rfl
@[simp] theorem State.successFlags_digest : (s.successFlags).digest = s.digest := rfl
@[simp] theorem State.successFlags_seed : (s.successFlags).seed = s.seed := rfl
@[simp] theorem State.successFlags_sponge : (s.successFlags).sponge = s.sponge := rfl
@[simp] theorem State.successFlags_phase : (s.successFlags).phase = s.phase := rfl
@[simp] theorem State.successFlags_inFlight : (s.successFlags).inFlight = s.inFlight := rfl
@[simp] theorem State.successFlags_opaqueLatched : (s.successFlags).opaqueLatched = s.opaqueLatched := rfl
@[simp] theorem State.successFlags_lmem : (s.successFlags).lmem = s.lmem := rfl
@[simp] theorem State.successFlags_hostQueue : (s.successFlags).hostQueue = s.hostQueue := rfl
@[simp] theorem State.successFlags_schedule : (s.successFlags).schedule = s.schedule := rfl
@[simp] theorem State.successFlags_response : (s.successFlags).response = s.response := rfl
@[simp] theorem State.successFlags_draws : (s.successFlags).draws = s.draws := rfl

/-! ## errorFlags -/

@[simp] theorem State.errorFlags_memBytes (e : ErrCode) : (s.errorFlags e).memBytes = s.memBytes := rfl
@[simp] theorem State.errorFlags_irqEn (e : ErrCode) : (s.errorFlags e).irqEn = s.irqEn := rfl
@[simp] theorem State.errorFlags_opaqueErr (e : ErrCode) : (s.errorFlags e).opaqueErr = s.opaqueErr := rfl
@[simp] theorem State.errorFlags_done (e : ErrCode) : (s.errorFlags e).done = true := rfl
@[simp] theorem State.errorFlags_err (e : ErrCode) : (s.errorFlags e).err = true := rfl
@[simp] theorem State.errorFlags_wbusy (e : ErrCode) : (s.errorFlags e).wbusy = s.wbusy := rfl
@[simp] theorem State.errorFlags_seedValid (e : ErrCode) : (s.errorFlags e).seedValid = s.seedValid := rfl
@[simp] theorem State.errorFlags_errCode (e : ErrCode) : (s.errorFlags e).errCode = e := rfl
@[simp] theorem State.errorFlags_cmd (e : ErrCode) : (s.errorFlags e).cmd = s.cmd := rfl
@[simp] theorem State.errorFlags_srcAddr (e : ErrCode) : (s.errorFlags e).srcAddr = s.srcAddr := rfl
@[simp] theorem State.errorFlags_srcLen (e : ErrCode) : (s.errorFlags e).srcLen = s.srcLen := rfl
@[simp] theorem State.errorFlags_dstAddr (e : ErrCode) : (s.errorFlags e).dstAddr = s.dstAddr := rfl
@[simp] theorem State.errorFlags_outLen (e : ErrCode) : (s.errorFlags e).outLen = s.outLen := rfl
@[simp] theorem State.errorFlags_kLen (e : ErrCode) : (s.errorFlags e).kLen = s.kLen := rfl
@[simp] theorem State.errorFlags_resultLen (e : ErrCode) : (s.errorFlags e).resultLen = s.resultLen := rfl
@[simp] theorem State.errorFlags_digest (e : ErrCode) : (s.errorFlags e).digest = s.digest := rfl
@[simp] theorem State.errorFlags_seed (e : ErrCode) : (s.errorFlags e).seed = s.seed := rfl
@[simp] theorem State.errorFlags_sponge (e : ErrCode) : (s.errorFlags e).sponge = s.sponge := rfl
@[simp] theorem State.errorFlags_phase (e : ErrCode) : (s.errorFlags e).phase = s.phase := rfl
@[simp] theorem State.errorFlags_inFlight (e : ErrCode) : (s.errorFlags e).inFlight = s.inFlight := rfl
@[simp] theorem State.errorFlags_opaqueLatched (e : ErrCode) : (s.errorFlags e).opaqueLatched = s.opaqueLatched := rfl
@[simp] theorem State.errorFlags_lmem (e : ErrCode) : (s.errorFlags e).lmem = s.lmem := rfl
@[simp] theorem State.errorFlags_hostQueue (e : ErrCode) : (s.errorFlags e).hostQueue = s.hostQueue := rfl
@[simp] theorem State.errorFlags_schedule (e : ErrCode) : (s.errorFlags e).schedule = s.schedule := rfl
@[simp] theorem State.errorFlags_response (e : ErrCode) : (s.errorFlags e).response = s.response := rfl
@[simp] theorem State.errorFlags_draws (e : ErrCode) : (s.errorFlags e).draws = s.draws := rfl

/-! ## issue -/

@[simp] theorem State.issue_memBytes (w : Word) : (s.issue w).memBytes = s.memBytes := rfl
@[simp] theorem State.issue_irqEn (w : Word) : (s.issue w).irqEn = s.irqEn := rfl
@[simp] theorem State.issue_opaqueErr (w : Word) : (s.issue w).opaqueErr = s.opaqueErr := rfl
@[simp] theorem State.issue_done (w : Word) : (s.issue w).done = false := rfl
@[simp] theorem State.issue_err (w : Word) : (s.issue w).err = false := rfl
@[simp] theorem State.issue_wbusy (w : Word) : (s.issue w).wbusy = s.wbusy := rfl
@[simp] theorem State.issue_seedValid (w : Word) : (s.issue w).seedValid = s.seedValid := rfl
@[simp] theorem State.issue_errCode (w : Word) : (s.issue w).errCode = .ok := rfl
@[simp] theorem State.issue_cmd (w : Word) : (s.issue w).cmd = w := rfl
@[simp] theorem State.issue_srcAddr (w : Word) : (s.issue w).srcAddr = s.srcAddr := rfl
@[simp] theorem State.issue_srcLen (w : Word) : (s.issue w).srcLen = s.srcLen := rfl
@[simp] theorem State.issue_dstAddr (w : Word) : (s.issue w).dstAddr = s.dstAddr := rfl
@[simp] theorem State.issue_outLen (w : Word) : (s.issue w).outLen = s.outLen := rfl
@[simp] theorem State.issue_kLen (w : Word) : (s.issue w).kLen = s.kLen := rfl
@[simp] theorem State.issue_resultLen (w : Word) : (s.issue w).resultLen = s.resultLen := rfl
@[simp] theorem State.issue_digest (w : Word) : (s.issue w).digest = s.digest := rfl
@[simp] theorem State.issue_seed (w : Word) : (s.issue w).seed = s.seed := rfl
@[simp] theorem State.issue_sponge (w : Word) : (s.issue w).sponge = s.sponge := rfl
@[simp] theorem State.issue_phase (w : Word) : (s.issue w).phase = s.phase := rfl
@[simp] theorem State.issue_inFlight (w : Word) : (s.issue w).inFlight = some w := rfl
@[simp] theorem State.issue_opaqueLatched (w : Word) : (s.issue w).opaqueLatched = s.opaqueErr := rfl
@[simp] theorem State.issue_lmem (w : Word) : (s.issue w).lmem = s.lmem := rfl
@[simp] theorem State.issue_hostQueue (w : Word) : (s.issue w).hostQueue = s.hostQueue := rfl
@[simp] theorem State.issue_schedule (w : Word) : (s.issue w).schedule = s.schedule := rfl
@[simp] theorem State.issue_response (w : Word) : (s.issue w).response = s.response := rfl
@[simp] theorem State.issue_draws (w : Word) : (s.issue w).draws = s.draws := rfl

/-! ## completed -/

@[simp] theorem State.completed_memBytes (n : Nat) : (s.completed n).memBytes = s.memBytes := rfl
@[simp] theorem State.completed_irqEn (n : Nat) : (s.completed n).irqEn = s.irqEn := rfl
@[simp] theorem State.completed_opaqueErr (n : Nat) : (s.completed n).opaqueErr = s.opaqueErr := rfl
@[simp] theorem State.completed_done (n : Nat) : (s.completed n).done = true := rfl
@[simp] theorem State.completed_err (n : Nat) : (s.completed n).err = false := rfl
@[simp] theorem State.completed_wbusy (n : Nat) : (s.completed n).wbusy = s.wbusy := rfl
@[simp] theorem State.completed_seedValid (n : Nat) : (s.completed n).seedValid = s.seedValid := rfl
@[simp] theorem State.completed_errCode (n : Nat) : (s.completed n).errCode = .ok := rfl
@[simp] theorem State.completed_cmd (n : Nat) : (s.completed n).cmd = s.cmd := rfl
@[simp] theorem State.completed_srcAddr (n : Nat) : (s.completed n).srcAddr = s.srcAddr := rfl
@[simp] theorem State.completed_srcLen (n : Nat) : (s.completed n).srcLen = s.srcLen := rfl
@[simp] theorem State.completed_dstAddr (n : Nat) : (s.completed n).dstAddr = s.dstAddr := rfl
@[simp] theorem State.completed_outLen (n : Nat) : (s.completed n).outLen = s.outLen := rfl
@[simp] theorem State.completed_kLen (n : Nat) : (s.completed n).kLen = s.kLen := rfl
@[simp] theorem State.completed_resultLen (n : Nat) : (s.completed n).resultLen = BitVec.ofNat 32 n := rfl
@[simp] theorem State.completed_digest (n : Nat) : (s.completed n).digest = s.digest := rfl
@[simp] theorem State.completed_seed (n : Nat) : (s.completed n).seed = s.seed := rfl
@[simp] theorem State.completed_sponge (n : Nat) : (s.completed n).sponge = s.sponge := rfl
@[simp] theorem State.completed_phase (n : Nat) : (s.completed n).phase = s.phase := rfl
@[simp] theorem State.completed_inFlight (n : Nat) : (s.completed n).inFlight = none := rfl
@[simp] theorem State.completed_opaqueLatched (n : Nat) : (s.completed n).opaqueLatched = s.opaqueLatched := rfl
@[simp] theorem State.completed_lmem (n : Nat) : (s.completed n).lmem = s.lmem := rfl
@[simp] theorem State.completed_hostQueue (n : Nat) : (s.completed n).hostQueue = s.hostQueue := rfl
@[simp] theorem State.completed_schedule (n : Nat) : (s.completed n).schedule = s.schedule := rfl
@[simp] theorem State.completed_response (n : Nat) : (s.completed n).response = s.response := rfl
@[simp] theorem State.completed_draws (n : Nat) : (s.completed n).draws = s.draws := rfl

/-! ## failed -/

@[simp] theorem State.failed_memBytes (e : ErrCode) : (s.failed e).memBytes = s.memBytes := rfl
@[simp] theorem State.failed_irqEn (e : ErrCode) : (s.failed e).irqEn = s.irqEn := rfl
@[simp] theorem State.failed_opaqueErr (e : ErrCode) : (s.failed e).opaqueErr = s.opaqueErr := rfl
@[simp] theorem State.failed_done (e : ErrCode) : (s.failed e).done = true := rfl
@[simp] theorem State.failed_err (e : ErrCode) : (s.failed e).err = true := rfl
@[simp] theorem State.failed_wbusy (e : ErrCode) : (s.failed e).wbusy = s.wbusy := rfl
@[simp] theorem State.failed_seedValid (e : ErrCode) : (s.failed e).seedValid = s.seedValid := rfl
@[simp] theorem State.failed_errCode (e : ErrCode) : (s.failed e).errCode = e := rfl
@[simp] theorem State.failed_cmd (e : ErrCode) : (s.failed e).cmd = s.cmd := rfl
@[simp] theorem State.failed_srcAddr (e : ErrCode) : (s.failed e).srcAddr = s.srcAddr := rfl
@[simp] theorem State.failed_srcLen (e : ErrCode) : (s.failed e).srcLen = s.srcLen := rfl
@[simp] theorem State.failed_dstAddr (e : ErrCode) : (s.failed e).dstAddr = s.dstAddr := rfl
@[simp] theorem State.failed_outLen (e : ErrCode) : (s.failed e).outLen = s.outLen := rfl
@[simp] theorem State.failed_kLen (e : ErrCode) : (s.failed e).kLen = s.kLen := rfl
@[simp] theorem State.failed_resultLen (e : ErrCode) : (s.failed e).resultLen = 0#32 := rfl
@[simp] theorem State.failed_digest (e : ErrCode) : (s.failed e).digest = s.digest := rfl
@[simp] theorem State.failed_seed (e : ErrCode) : (s.failed e).seed = s.seed := rfl
@[simp] theorem State.failed_sponge (e : ErrCode) : (s.failed e).sponge = s.sponge := rfl
@[simp] theorem State.failed_phase (e : ErrCode) : (s.failed e).phase = s.phase := rfl
@[simp] theorem State.failed_inFlight (e : ErrCode) : (s.failed e).inFlight = none := rfl
@[simp] theorem State.failed_opaqueLatched (e : ErrCode) : (s.failed e).opaqueLatched = s.opaqueLatched := rfl
@[simp] theorem State.failed_lmem (e : ErrCode) : (s.failed e).lmem = s.lmem := rfl
@[simp] theorem State.failed_hostQueue (e : ErrCode) : (s.failed e).hostQueue = s.hostQueue := rfl
@[simp] theorem State.failed_schedule (e : ErrCode) : (s.failed e).schedule = s.schedule := rfl
@[simp] theorem State.failed_response (e : ErrCode) : (s.failed e).response = s.response := rfl
@[simp] theorem State.failed_draws (e : ErrCode) : (s.failed e).draws = s.draws := rfl

/-! ## setDigest -/

@[simp] theorem State.setDigest_memBytes (d : List Byte) : (s.setDigest d).memBytes = s.memBytes := rfl
@[simp] theorem State.setDigest_irqEn (d : List Byte) : (s.setDigest d).irqEn = s.irqEn := rfl
@[simp] theorem State.setDigest_opaqueErr (d : List Byte) : (s.setDigest d).opaqueErr = s.opaqueErr := rfl
@[simp] theorem State.setDigest_done (d : List Byte) : (s.setDigest d).done = s.done := rfl
@[simp] theorem State.setDigest_err (d : List Byte) : (s.setDigest d).err = s.err := rfl
@[simp] theorem State.setDigest_wbusy (d : List Byte) : (s.setDigest d).wbusy = s.wbusy := rfl
@[simp] theorem State.setDigest_seedValid (d : List Byte) : (s.setDigest d).seedValid = s.seedValid := rfl
@[simp] theorem State.setDigest_errCode (d : List Byte) : (s.setDigest d).errCode = s.errCode := rfl
@[simp] theorem State.setDigest_cmd (d : List Byte) : (s.setDigest d).cmd = s.cmd := rfl
@[simp] theorem State.setDigest_srcAddr (d : List Byte) : (s.setDigest d).srcAddr = s.srcAddr := rfl
@[simp] theorem State.setDigest_srcLen (d : List Byte) : (s.setDigest d).srcLen = s.srcLen := rfl
@[simp] theorem State.setDigest_dstAddr (d : List Byte) : (s.setDigest d).dstAddr = s.dstAddr := rfl
@[simp] theorem State.setDigest_outLen (d : List Byte) : (s.setDigest d).outLen = s.outLen := rfl
@[simp] theorem State.setDigest_kLen (d : List Byte) : (s.setDigest d).kLen = s.kLen := rfl
@[simp] theorem State.setDigest_resultLen (d : List Byte) : (s.setDigest d).resultLen = s.resultLen := rfl
@[simp] theorem State.setDigest_digest (d : List Byte) : (s.setDigest d).digest = wordsOf32 d := rfl
@[simp] theorem State.setDigest_seed (d : List Byte) : (s.setDigest d).seed = s.seed := rfl
@[simp] theorem State.setDigest_sponge (d : List Byte) : (s.setDigest d).sponge = s.sponge := rfl
@[simp] theorem State.setDigest_phase (d : List Byte) : (s.setDigest d).phase = s.phase := rfl
@[simp] theorem State.setDigest_inFlight (d : List Byte) : (s.setDigest d).inFlight = s.inFlight := rfl
@[simp] theorem State.setDigest_opaqueLatched (d : List Byte) : (s.setDigest d).opaqueLatched = s.opaqueLatched := rfl
@[simp] theorem State.setDigest_lmem (d : List Byte) : (s.setDigest d).lmem = s.lmem := rfl
@[simp] theorem State.setDigest_hostQueue (d : List Byte) : (s.setDigest d).hostQueue = s.hostQueue := rfl
@[simp] theorem State.setDigest_schedule (d : List Byte) : (s.setDigest d).schedule = s.schedule := rfl
@[simp] theorem State.setDigest_response (d : List Byte) : (s.setDigest d).response = s.response := rfl
@[simp] theorem State.setDigest_draws (d : List Byte) : (s.setDigest d).draws = s.draws := rfl

/-! ## consumeSeed -/

@[simp] theorem State.consumeSeed_memBytes : (s.consumeSeed).memBytes = s.memBytes := rfl
@[simp] theorem State.consumeSeed_irqEn : (s.consumeSeed).irqEn = s.irqEn := rfl
@[simp] theorem State.consumeSeed_opaqueErr : (s.consumeSeed).opaqueErr = s.opaqueErr := rfl
@[simp] theorem State.consumeSeed_done : (s.consumeSeed).done = s.done := rfl
@[simp] theorem State.consumeSeed_err : (s.consumeSeed).err = s.err := rfl
@[simp] theorem State.consumeSeed_wbusy : (s.consumeSeed).wbusy = s.wbusy := rfl
@[simp] theorem State.consumeSeed_seedValid : (s.consumeSeed).seedValid = false := rfl
@[simp] theorem State.consumeSeed_errCode : (s.consumeSeed).errCode = s.errCode := rfl
@[simp] theorem State.consumeSeed_cmd : (s.consumeSeed).cmd = s.cmd := rfl
@[simp] theorem State.consumeSeed_srcAddr : (s.consumeSeed).srcAddr = s.srcAddr := rfl
@[simp] theorem State.consumeSeed_srcLen : (s.consumeSeed).srcLen = s.srcLen := rfl
@[simp] theorem State.consumeSeed_dstAddr : (s.consumeSeed).dstAddr = s.dstAddr := rfl
@[simp] theorem State.consumeSeed_outLen : (s.consumeSeed).outLen = s.outLen := rfl
@[simp] theorem State.consumeSeed_kLen : (s.consumeSeed).kLen = s.kLen := rfl
@[simp] theorem State.consumeSeed_resultLen : (s.consumeSeed).resultLen = s.resultLen := rfl
@[simp] theorem State.consumeSeed_digest : (s.consumeSeed).digest = s.digest := rfl
@[simp] theorem State.consumeSeed_seed : (s.consumeSeed).seed = .replicate 8 0#32 := rfl
@[simp] theorem State.consumeSeed_sponge : (s.consumeSeed).sponge = s.sponge := rfl
@[simp] theorem State.consumeSeed_phase : (s.consumeSeed).phase = s.phase := rfl
@[simp] theorem State.consumeSeed_inFlight : (s.consumeSeed).inFlight = s.inFlight := rfl
@[simp] theorem State.consumeSeed_opaqueLatched : (s.consumeSeed).opaqueLatched = s.opaqueLatched := rfl
@[simp] theorem State.consumeSeed_lmem : (s.consumeSeed).lmem = s.lmem := rfl
@[simp] theorem State.consumeSeed_hostQueue : (s.consumeSeed).hostQueue = s.hostQueue := rfl
@[simp] theorem State.consumeSeed_schedule : (s.consumeSeed).schedule = s.schedule := rfl
@[simp] theorem State.consumeSeed_response : (s.consumeSeed).response = s.response := rfl
@[simp] theorem State.consumeSeed_draws : (s.consumeSeed).draws = s.draws := rfl

/-! ## scramble -/

@[simp] theorem State.scramble_memBytes (r : Region) : (s.scramble r).memBytes = s.memBytes := rfl
@[simp] theorem State.scramble_irqEn (r : Region) : (s.scramble r).irqEn = s.irqEn := rfl
@[simp] theorem State.scramble_opaqueErr (r : Region) : (s.scramble r).opaqueErr = s.opaqueErr := rfl
@[simp] theorem State.scramble_done (r : Region) : (s.scramble r).done = s.done := rfl
@[simp] theorem State.scramble_err (r : Region) : (s.scramble r).err = s.err := rfl
@[simp] theorem State.scramble_wbusy (r : Region) : (s.scramble r).wbusy = s.wbusy := rfl
@[simp] theorem State.scramble_seedValid (r : Region) : (s.scramble r).seedValid = s.seedValid := rfl
@[simp] theorem State.scramble_errCode (r : Region) : (s.scramble r).errCode = s.errCode := rfl
@[simp] theorem State.scramble_cmd (r : Region) : (s.scramble r).cmd = s.cmd := rfl
@[simp] theorem State.scramble_srcAddr (r : Region) : (s.scramble r).srcAddr = s.srcAddr := rfl
@[simp] theorem State.scramble_srcLen (r : Region) : (s.scramble r).srcLen = s.srcLen := rfl
@[simp] theorem State.scramble_dstAddr (r : Region) : (s.scramble r).dstAddr = s.dstAddr := rfl
@[simp] theorem State.scramble_outLen (r : Region) : (s.scramble r).outLen = s.outLen := rfl
@[simp] theorem State.scramble_kLen (r : Region) : (s.scramble r).kLen = s.kLen := rfl
@[simp] theorem State.scramble_resultLen (r : Region) : (s.scramble r).resultLen = s.resultLen := rfl
@[simp] theorem State.scramble_digest (r : Region) : (s.scramble r).digest = s.digest := rfl
@[simp] theorem State.scramble_seed (r : Region) : (s.scramble r).seed = s.seed := rfl
@[simp] theorem State.scramble_sponge (r : Region) : (s.scramble r).sponge = s.sponge := rfl
@[simp] theorem State.scramble_phase (r : Region) : (s.scramble r).phase = s.phase := rfl
@[simp] theorem State.scramble_inFlight (r : Region) : (s.scramble r).inFlight = s.inFlight := rfl
@[simp] theorem State.scramble_opaqueLatched (r : Region) : (s.scramble r).opaqueLatched = s.opaqueLatched := rfl
@[simp] theorem State.scramble_lmem (r : Region) : (s.scramble r).lmem = s.lmem.writeBytes r.addr (s.drawnBytes (s.clipLen r)) := rfl
@[simp] theorem State.scramble_hostQueue (r : Region) : (s.scramble r).hostQueue = s.hostQueue := rfl
@[simp] theorem State.scramble_schedule (r : Region) : (s.scramble r).schedule = s.schedule := rfl
@[simp] theorem State.scramble_response (r : Region) : (s.scramble r).response = s.response := rfl
@[simp] theorem State.scramble_draws (r : Region) : (s.scramble r).draws = s.draws + s.clipLen r := rfl

/-! ## writeStatus -/

@[simp] theorem State.writeStatus_memBytes (v : Word) : (s.writeStatus v).memBytes = s.memBytes := rfl
@[simp] theorem State.writeStatus_irqEn (v : Word) : (s.writeStatus v).irqEn = s.irqEn := rfl
@[simp] theorem State.writeStatus_opaqueErr (v : Word) : (s.writeStatus v).opaqueErr = s.opaqueErr := rfl
@[simp] theorem State.writeStatus_done (v : Word) : (s.writeStatus v).done = (s.done && !v.getLsbD 1) := rfl
@[simp] theorem State.writeStatus_err (v : Word) : (s.writeStatus v).err = s.err := rfl
@[simp] theorem State.writeStatus_wbusy (v : Word) : (s.writeStatus v).wbusy = (s.wbusy && !v.getLsbD 3) := rfl
@[simp] theorem State.writeStatus_seedValid (v : Word) : (s.writeStatus v).seedValid = s.seedValid := rfl
@[simp] theorem State.writeStatus_errCode (v : Word) : (s.writeStatus v).errCode = s.errCode := rfl
@[simp] theorem State.writeStatus_cmd (v : Word) : (s.writeStatus v).cmd = s.cmd := rfl
@[simp] theorem State.writeStatus_srcAddr (v : Word) : (s.writeStatus v).srcAddr = s.srcAddr := rfl
@[simp] theorem State.writeStatus_srcLen (v : Word) : (s.writeStatus v).srcLen = s.srcLen := rfl
@[simp] theorem State.writeStatus_dstAddr (v : Word) : (s.writeStatus v).dstAddr = s.dstAddr := rfl
@[simp] theorem State.writeStatus_outLen (v : Word) : (s.writeStatus v).outLen = s.outLen := rfl
@[simp] theorem State.writeStatus_kLen (v : Word) : (s.writeStatus v).kLen = s.kLen := rfl
@[simp] theorem State.writeStatus_resultLen (v : Word) : (s.writeStatus v).resultLen = s.resultLen := rfl
@[simp] theorem State.writeStatus_digest (v : Word) : (s.writeStatus v).digest = s.digest := rfl
@[simp] theorem State.writeStatus_seed (v : Word) : (s.writeStatus v).seed = s.seed := rfl
@[simp] theorem State.writeStatus_sponge (v : Word) : (s.writeStatus v).sponge = s.sponge := rfl
@[simp] theorem State.writeStatus_phase (v : Word) : (s.writeStatus v).phase = s.phase := rfl
@[simp] theorem State.writeStatus_inFlight (v : Word) : (s.writeStatus v).inFlight = s.inFlight := rfl
@[simp] theorem State.writeStatus_opaqueLatched (v : Word) : (s.writeStatus v).opaqueLatched = s.opaqueLatched := rfl
@[simp] theorem State.writeStatus_lmem (v : Word) : (s.writeStatus v).lmem = s.lmem := rfl
@[simp] theorem State.writeStatus_hostQueue (v : Word) : (s.writeStatus v).hostQueue = s.hostQueue := rfl
@[simp] theorem State.writeStatus_schedule (v : Word) : (s.writeStatus v).schedule = s.schedule := rfl
@[simp] theorem State.writeStatus_response (v : Word) : (s.writeStatus v).response = s.response := rfl
@[simp] theorem State.writeStatus_draws (v : Word) : (s.writeStatus v).draws = s.draws := rfl

/-! ## writeSeed -/

@[simp] theorem State.writeSeed_memBytes (j : Fin 8) (v : Word) : (s.writeSeed j v).memBytes = s.memBytes := rfl
@[simp] theorem State.writeSeed_irqEn (j : Fin 8) (v : Word) : (s.writeSeed j v).irqEn = s.irqEn := rfl
@[simp] theorem State.writeSeed_opaqueErr (j : Fin 8) (v : Word) : (s.writeSeed j v).opaqueErr = s.opaqueErr := rfl
@[simp] theorem State.writeSeed_done (j : Fin 8) (v : Word) : (s.writeSeed j v).done = s.done := rfl
@[simp] theorem State.writeSeed_err (j : Fin 8) (v : Word) : (s.writeSeed j v).err = s.err := rfl
@[simp] theorem State.writeSeed_wbusy (j : Fin 8) (v : Word) : (s.writeSeed j v).wbusy = s.wbusy := rfl
@[simp] theorem State.writeSeed_seedValid (j : Fin 8) (v : Word) : (s.writeSeed j v).seedValid = (s.seedValid || j.val == 7) := rfl
@[simp] theorem State.writeSeed_errCode (j : Fin 8) (v : Word) : (s.writeSeed j v).errCode = s.errCode := rfl
@[simp] theorem State.writeSeed_cmd (j : Fin 8) (v : Word) : (s.writeSeed j v).cmd = s.cmd := rfl
@[simp] theorem State.writeSeed_srcAddr (j : Fin 8) (v : Word) : (s.writeSeed j v).srcAddr = s.srcAddr := rfl
@[simp] theorem State.writeSeed_srcLen (j : Fin 8) (v : Word) : (s.writeSeed j v).srcLen = s.srcLen := rfl
@[simp] theorem State.writeSeed_dstAddr (j : Fin 8) (v : Word) : (s.writeSeed j v).dstAddr = s.dstAddr := rfl
@[simp] theorem State.writeSeed_outLen (j : Fin 8) (v : Word) : (s.writeSeed j v).outLen = s.outLen := rfl
@[simp] theorem State.writeSeed_kLen (j : Fin 8) (v : Word) : (s.writeSeed j v).kLen = s.kLen := rfl
@[simp] theorem State.writeSeed_resultLen (j : Fin 8) (v : Word) : (s.writeSeed j v).resultLen = s.resultLen := rfl
@[simp] theorem State.writeSeed_digest (j : Fin 8) (v : Word) : (s.writeSeed j v).digest = s.digest := rfl
@[simp] theorem State.writeSeed_seed (j : Fin 8) (v : Word) : (s.writeSeed j v).seed = s.seed.set j v := rfl
@[simp] theorem State.writeSeed_sponge (j : Fin 8) (v : Word) : (s.writeSeed j v).sponge = s.sponge := rfl
@[simp] theorem State.writeSeed_phase (j : Fin 8) (v : Word) : (s.writeSeed j v).phase = s.phase := rfl
@[simp] theorem State.writeSeed_inFlight (j : Fin 8) (v : Word) : (s.writeSeed j v).inFlight = s.inFlight := rfl
@[simp] theorem State.writeSeed_opaqueLatched (j : Fin 8) (v : Word) : (s.writeSeed j v).opaqueLatched = s.opaqueLatched := rfl
@[simp] theorem State.writeSeed_lmem (j : Fin 8) (v : Word) : (s.writeSeed j v).lmem = s.lmem := rfl
@[simp] theorem State.writeSeed_hostQueue (j : Fin 8) (v : Word) : (s.writeSeed j v).hostQueue = s.hostQueue := rfl
@[simp] theorem State.writeSeed_schedule (j : Fin 8) (v : Word) : (s.writeSeed j v).schedule = s.schedule := rfl
@[simp] theorem State.writeSeed_response (j : Fin 8) (v : Word) : (s.writeSeed j v).response = s.response := rfl
@[simp] theorem State.writeSeed_draws (j : Fin 8) (v : Word) : (s.writeSeed j v).draws = s.draws := rfl

/-! ## withSchedule -/

@[simp] theorem State.withSchedule_memBytes (q : List Turn) : (s.withSchedule q).memBytes = s.memBytes := rfl
@[simp] theorem State.withSchedule_irqEn (q : List Turn) : (s.withSchedule q).irqEn = s.irqEn := rfl
@[simp] theorem State.withSchedule_opaqueErr (q : List Turn) : (s.withSchedule q).opaqueErr = s.opaqueErr := rfl
@[simp] theorem State.withSchedule_done (q : List Turn) : (s.withSchedule q).done = s.done := rfl
@[simp] theorem State.withSchedule_err (q : List Turn) : (s.withSchedule q).err = s.err := rfl
@[simp] theorem State.withSchedule_wbusy (q : List Turn) : (s.withSchedule q).wbusy = s.wbusy := rfl
@[simp] theorem State.withSchedule_seedValid (q : List Turn) : (s.withSchedule q).seedValid = s.seedValid := rfl
@[simp] theorem State.withSchedule_errCode (q : List Turn) : (s.withSchedule q).errCode = s.errCode := rfl
@[simp] theorem State.withSchedule_cmd (q : List Turn) : (s.withSchedule q).cmd = s.cmd := rfl
@[simp] theorem State.withSchedule_srcAddr (q : List Turn) : (s.withSchedule q).srcAddr = s.srcAddr := rfl
@[simp] theorem State.withSchedule_srcLen (q : List Turn) : (s.withSchedule q).srcLen = s.srcLen := rfl
@[simp] theorem State.withSchedule_dstAddr (q : List Turn) : (s.withSchedule q).dstAddr = s.dstAddr := rfl
@[simp] theorem State.withSchedule_outLen (q : List Turn) : (s.withSchedule q).outLen = s.outLen := rfl
@[simp] theorem State.withSchedule_kLen (q : List Turn) : (s.withSchedule q).kLen = s.kLen := rfl
@[simp] theorem State.withSchedule_resultLen (q : List Turn) : (s.withSchedule q).resultLen = s.resultLen := rfl
@[simp] theorem State.withSchedule_digest (q : List Turn) : (s.withSchedule q).digest = s.digest := rfl
@[simp] theorem State.withSchedule_seed (q : List Turn) : (s.withSchedule q).seed = s.seed := rfl
@[simp] theorem State.withSchedule_sponge (q : List Turn) : (s.withSchedule q).sponge = s.sponge := rfl
@[simp] theorem State.withSchedule_phase (q : List Turn) : (s.withSchedule q).phase = s.phase := rfl
@[simp] theorem State.withSchedule_inFlight (q : List Turn) : (s.withSchedule q).inFlight = s.inFlight := rfl
@[simp] theorem State.withSchedule_opaqueLatched (q : List Turn) : (s.withSchedule q).opaqueLatched = s.opaqueLatched := rfl
@[simp] theorem State.withSchedule_lmem (q : List Turn) : (s.withSchedule q).lmem = s.lmem := rfl
@[simp] theorem State.withSchedule_hostQueue (q : List Turn) : (s.withSchedule q).hostQueue = s.hostQueue := rfl
@[simp] theorem State.withSchedule_schedule (q : List Turn) : (s.withSchedule q).schedule = q := rfl
@[simp] theorem State.withSchedule_response (q : List Turn) : (s.withSchedule q).response = s.response := rfl
@[simp] theorem State.withSchedule_draws (q : List Turn) : (s.withSchedule q).draws = s.draws := rfl

/-! ## answered -/

@[simp] theorem State.answered_memBytes (q : List HostAccess) (r : Response) : (s.answered q r).memBytes = s.memBytes := rfl
@[simp] theorem State.answered_irqEn (q : List HostAccess) (r : Response) : (s.answered q r).irqEn = s.irqEn := rfl
@[simp] theorem State.answered_opaqueErr (q : List HostAccess) (r : Response) : (s.answered q r).opaqueErr = s.opaqueErr := rfl
@[simp] theorem State.answered_done (q : List HostAccess) (r : Response) : (s.answered q r).done = s.done := rfl
@[simp] theorem State.answered_err (q : List HostAccess) (r : Response) : (s.answered q r).err = s.err := rfl
@[simp] theorem State.answered_wbusy (q : List HostAccess) (r : Response) : (s.answered q r).wbusy = s.wbusy := rfl
@[simp] theorem State.answered_seedValid (q : List HostAccess) (r : Response) : (s.answered q r).seedValid = s.seedValid := rfl
@[simp] theorem State.answered_errCode (q : List HostAccess) (r : Response) : (s.answered q r).errCode = s.errCode := rfl
@[simp] theorem State.answered_cmd (q : List HostAccess) (r : Response) : (s.answered q r).cmd = s.cmd := rfl
@[simp] theorem State.answered_srcAddr (q : List HostAccess) (r : Response) : (s.answered q r).srcAddr = s.srcAddr := rfl
@[simp] theorem State.answered_srcLen (q : List HostAccess) (r : Response) : (s.answered q r).srcLen = s.srcLen := rfl
@[simp] theorem State.answered_dstAddr (q : List HostAccess) (r : Response) : (s.answered q r).dstAddr = s.dstAddr := rfl
@[simp] theorem State.answered_outLen (q : List HostAccess) (r : Response) : (s.answered q r).outLen = s.outLen := rfl
@[simp] theorem State.answered_kLen (q : List HostAccess) (r : Response) : (s.answered q r).kLen = s.kLen := rfl
@[simp] theorem State.answered_resultLen (q : List HostAccess) (r : Response) : (s.answered q r).resultLen = s.resultLen := rfl
@[simp] theorem State.answered_digest (q : List HostAccess) (r : Response) : (s.answered q r).digest = s.digest := rfl
@[simp] theorem State.answered_seed (q : List HostAccess) (r : Response) : (s.answered q r).seed = s.seed := rfl
@[simp] theorem State.answered_sponge (q : List HostAccess) (r : Response) : (s.answered q r).sponge = s.sponge := rfl
@[simp] theorem State.answered_phase (q : List HostAccess) (r : Response) : (s.answered q r).phase = s.phase := rfl
@[simp] theorem State.answered_inFlight (q : List HostAccess) (r : Response) : (s.answered q r).inFlight = s.inFlight := rfl
@[simp] theorem State.answered_opaqueLatched (q : List HostAccess) (r : Response) : (s.answered q r).opaqueLatched = s.opaqueLatched := rfl
@[simp] theorem State.answered_lmem (q : List HostAccess) (r : Response) : (s.answered q r).lmem = s.lmem := rfl
@[simp] theorem State.answered_hostQueue (q : List HostAccess) (r : Response) : (s.answered q r).hostQueue = q := rfl
@[simp] theorem State.answered_schedule (q : List HostAccess) (r : Response) : (s.answered q r).schedule = s.schedule := rfl
@[simp] theorem State.answered_response (q : List HostAccess) (r : Response) : (s.answered q r).response = r := rfl
@[simp] theorem State.answered_draws (q : List HostAccess) (r : Response) : (s.answered q r).draws = s.draws := rfl

/-! ## resetRegs -/

@[simp] theorem State.resetRegs_memBytes : (s.resetRegs).memBytes = s.memBytes := rfl
@[simp] theorem State.resetRegs_irqEn : (s.resetRegs).irqEn = State.reset.irqEn := rfl
@[simp] theorem State.resetRegs_opaqueErr : (s.resetRegs).opaqueErr = State.reset.opaqueErr := rfl
@[simp] theorem State.resetRegs_done : (s.resetRegs).done = State.reset.done := rfl
@[simp] theorem State.resetRegs_err : (s.resetRegs).err = State.reset.err := rfl
@[simp] theorem State.resetRegs_wbusy : (s.resetRegs).wbusy = State.reset.wbusy := rfl
@[simp] theorem State.resetRegs_seedValid : (s.resetRegs).seedValid = State.reset.seedValid := rfl
@[simp] theorem State.resetRegs_errCode : (s.resetRegs).errCode = State.reset.errCode := rfl
@[simp] theorem State.resetRegs_cmd : (s.resetRegs).cmd = State.reset.cmd := rfl
@[simp] theorem State.resetRegs_srcAddr : (s.resetRegs).srcAddr = State.reset.srcAddr := rfl
@[simp] theorem State.resetRegs_srcLen : (s.resetRegs).srcLen = State.reset.srcLen := rfl
@[simp] theorem State.resetRegs_dstAddr : (s.resetRegs).dstAddr = State.reset.dstAddr := rfl
@[simp] theorem State.resetRegs_outLen : (s.resetRegs).outLen = State.reset.outLen := rfl
@[simp] theorem State.resetRegs_kLen : (s.resetRegs).kLen = State.reset.kLen := rfl
@[simp] theorem State.resetRegs_resultLen : (s.resetRegs).resultLen = State.reset.resultLen := rfl
@[simp] theorem State.resetRegs_digest : (s.resetRegs).digest = State.reset.digest := rfl
@[simp] theorem State.resetRegs_seed : (s.resetRegs).seed = State.reset.seed := rfl
@[simp] theorem State.resetRegs_sponge : (s.resetRegs).sponge = State.reset.sponge := rfl
@[simp] theorem State.resetRegs_phase : (s.resetRegs).phase = State.reset.phase := rfl
@[simp] theorem State.resetRegs_inFlight : (s.resetRegs).inFlight = State.reset.inFlight := rfl
@[simp] theorem State.resetRegs_opaqueLatched : (s.resetRegs).opaqueLatched = State.reset.opaqueLatched := rfl
@[simp] theorem State.resetRegs_lmem : (s.resetRegs).lmem = s.lmem := rfl
@[simp] theorem State.resetRegs_hostQueue : (s.resetRegs).hostQueue = s.hostQueue := rfl
@[simp] theorem State.resetRegs_schedule : (s.resetRegs).schedule = s.schedule := rfl
@[simp] theorem State.resetRegs_response : (s.resetRegs).response = s.response := rfl
@[simp] theorem State.resetRegs_draws : (s.resetRegs).draws = s.draws := rfl

@[simp] theorem State.issueFlags_busy : (s.issueFlags).busy = s.busy := rfl
@[simp] theorem State.successFlags_busy : (s.successFlags).busy = s.busy := rfl
@[simp] theorem State.errorFlags_busy (e : ErrCode) : (s.errorFlags e).busy = s.busy := rfl
@[simp] theorem State.issue_busy (w : Word) : (s.issue w).busy = true := rfl
@[simp] theorem State.completed_busy (n : Nat) : (s.completed n).busy = false := rfl
@[simp] theorem State.failed_busy (e : ErrCode) : (s.failed e).busy = false := rfl
@[simp] theorem State.setDigest_busy (d : List Byte) : (s.setDigest d).busy = s.busy := rfl
@[simp] theorem State.consumeSeed_busy : (s.consumeSeed).busy = s.busy := rfl
@[simp] theorem State.scramble_busy (r : Region) : (s.scramble r).busy = s.busy := rfl
@[simp] theorem State.writeStatus_busy (v : Word) : (s.writeStatus v).busy = s.busy := rfl
@[simp] theorem State.writeSeed_busy (j : Fin 8) (v : Word) : (s.writeSeed j v).busy = s.busy := rfl
@[simp] theorem State.withSchedule_busy (q : List Turn) : (s.withSchedule q).busy = s.busy := rfl
@[simp] theorem State.answered_busy (q : List HostAccess) (r : Response) : (s.answered q r).busy = s.busy := rfl
@[simp] theorem State.resetRegs_busy : (s.resetRegs).busy = false := rfl
@[simp] theorem State.setDigest_src (d : List Byte) : (s.setDigest d).src = s.src := rfl
@[simp] theorem State.setDigest_dst (d : List Byte) (k : Nat) : (s.setDigest d).dst k = s.dst k := rfl
@[simp] theorem State.consumeSeed_src : (s.consumeSeed).src = s.src := rfl
@[simp] theorem State.consumeSeed_dst (k : Nat) : (s.consumeSeed).dst k = s.dst k := rfl

@[simp] theorem State.src_addr : s.src.addr = s.srcAddr.toNat := rfl
@[simp] theorem State.src_len : s.src.len = s.srcLen.toNat := rfl
@[simp] theorem State.srcBlock_addr : s.srcBlock.addr = s.srcAddr.toNat := rfl
@[simp] theorem State.srcBlock_len : s.srcBlock.len = s.kLen.toNat := rfl
@[simp] theorem State.dst_addr (n : Nat) : (s.dst n).addr = s.dstAddr.toNat := rfl
@[simp] theorem State.dst_len (n : Nat) : (s.dst n).len = n := rfl

end Sys2Proof.Machine
end

