-- ==== Sys2Proof/Laws/Ops.lean ====
section
/-! SUPPORT. The shared operations and the inversion of a command: everything exec can do, said once. -/

namespace Sys2Proof.Machine

/-- On a valid region MemRead gives its bytes (R64). -/
theorem State.memRead_of_valid {s : State} {r : Region} (h : s.valid r) (k : List Byte → Result) :
    s.memRead r k = k (s.lmem.readBytes r.addr r.len) := if_pos h

/-- On a valid region MemWrite writes its bytes (R64). -/
theorem State.memWrite_of_valid {s : State} {addr : Nat} {v : List Byte} (h : addr + v.length ≤ s.memBytes)
    (k : State → Result) : s.memWrite addr v k = k { s with lmem := s.lmem.writeBytes addr v } := if_pos h

@[simp] theorem State.drawnBytes_length (s : State) (n : Nat) : (s.drawnBytes n).length = n := by
  simp [State.drawnBytes]

/-- The state a successful command leaves, before its flags: everything a command may change. -/
def State.written (s : State) (c : Sponge) (p : Phase) (d : Vector Word 8) (sd : Vector Word 8) (sv : Bool)
    (v : List Byte) : State :=
  { s with
    sponge := c, phase := p, digest := d, seed := sd, seedValid := sv, lmem := s.lmem.writeBytes s.dstAddr.toNat v }

/-- Everything a command can do (R194, R195): it fails with a code and changes nothing else, or it succeeds having
written at most A, POS and PHASE, DIGEST, SEED and SEED_VALID, and the string v at DST_ADDR, inside LMEM, whose length is
RESULT_LEN. -/
def CommandOutcome (i : Instr) (s : State) (r : Result) : Prop :=
  (∃ e, e ≠ .ok ∧ r = .next (s.failed e)) ∨
  ∃ c p d sd sv v, r = .next ((s.written c p d sd sv v).completed v.length) ∧
    (v = [] ∨ s.dstAddr.toNat + v.length ≤ s.memBytes) ∧
    (p ≠ .absorb → c.pos = 0 ∨ c.pos = s.sponge.pos ∧ p = s.phase) ∧
    (i = .sha3Hash ∨ i = .mgf1 ∨ i = .oaepEnc ∨ i = .oaepDec ∨ i = .b64Enc ∨ i = .b64Dec →
      c = s.sponge ∧ p = s.phase) ∧
    (i ≠ .sha3Final → i ≠ .sha3Hash → d = s.digest) ∧
    (i ≠ .oaepEnc → sd = s.seed ∧ sv = s.seedValid) ∧
    (i = .keccakF ∨ i = .sha3Init ∨ i = .sha3Absorb → v = [])

theorem CommandOutcome.raised (i : Instr) (s : State) {e : ErrCode} (h : e ≠ .ok) : CommandOutcome i s (s.raise e) :=
  .inl ⟨e, h, rfl⟩

/-- A check of a command: it raises its error, or the rest runs with the check passed. -/
theorem CommandOutcome.check {i : Instr} {s : State} {e : ErrCode} {p : Prop} [Decidable p] {r : Result}
    (he : e ≠ .ok) (hr : ¬ p → CommandOutcome i s r) : CommandOutcome i s (if p then s.raise e else r) := by
  by_cases h : p
  · rw [if_pos h]; exact .raised i s he
  · rw [if_neg h]; exact hr h

/-- The outcome of a command that stores v and leaves the sponge alone. -/
theorem CommandOutcome.stored {i : Instr} {s : State} {d sd : Vector Word 8} {sv : Bool} {v : List Byte}
    (hv : s.dstAddr.toNat + v.length ≤ s.memBytes)
    (hi : ¬ (i = .keccakF ∨ i = .sha3Init ∨ i = .sha3Absorb))
    (hd : i ≠ .sha3Final → i ≠ .sha3Hash → d = s.digest)
    (hs : i ≠ .oaepEnc → sd = s.seed ∧ sv = s.seedValid) :
    CommandOutcome i s (.next ((s.written s.sponge s.phase d sd sv v).completed v.length)) :=
  .inr ⟨s.sponge, s.phase, d, sd, sv, v, rfl, .inr hv, fun _ => .inr ⟨rfl, rfl⟩, fun _ => ⟨rfl, rfl⟩, hd, hs,
    fun h => absurd h hi⟩

theorem exec_cases (i : Instr) (s : State) : CommandOutcome i s (exec i s) := by
  cases i with
  | keccakF =>
    exact .inr ⟨{ s.sponge with a := keccakF s.sponge.a }, s.phase, s.digest, s.seed, s.seedValid, [], rfl, by simp⟩
  | sha3Init =>
    exact .inr ⟨Sponge.init, .absorb, s.digest, s.seed, s.seedValid, [], rfl, by simp⟩
  | sha3Absorb =>
    refine .check (by decide) fun h1 => .check (by decide) fun h2 => ?_
    rw [State.memRead_of_valid (not_not.1 h2)]
    exact .inr ⟨s.sponge.absorb (s.lmem.readBytes s.src.addr s.src.len), s.phase, s.digest, s.seed, s.seedValid, [], rfl,
      by simp [not_not.1 h1]⟩
  | sha3Final =>
    refine .check (by decide) fun h1 => .check (by decide) fun h2 => ?_
    have h2 : s.dstAddr.toNat + 32 ≤ s.memBytes := not_not.1 h2
    dsimp only
    rw [State.memWrite_of_valid (by simpa using h2)]
    refine .inr ⟨s.sponge.finalize, .finalDone, wordsOf32 s.sponge.finalize.a.digest, s.seed, s.seedValid,
      s.sponge.finalize.a.digest, ?_, .inr (by simpa using h2),
      fun _ => .inl rfl, by simp, by simp, by simp, by simp⟩
    rw [Lanes.digest_length]
    rfl
  | sha3Hash =>
    refine .check (by decide) fun h1 => .check (by decide) fun h2 => .check (by decide) fun _ => ?_
    have h2 : s.dstAddr.toNat + 32 ≤ s.memBytes := not_not.1 h2
    rw [State.memRead_of_valid (not_not.1 h1), State.memWrite_of_valid (by simpa using h2)]
    have := CommandOutcome.stored (i := .sha3Hash) (s := s)
      (d := wordsOf32 (sha3 (s.lmem.readBytes s.src.addr s.src.len))) (sd := s.seed) (sv := s.seedValid)
      (v := sha3 (s.lmem.readBytes s.src.addr s.src.len)) (by simpa using h2) (by decide) (by simp) (by simp)
    rwa [sha3_length] at this
  | mgf1 =>
    refine .check (by decide) fun h1 => .check (by decide) fun h2 => .check (by decide) fun _ => ?_
    have h2 : s.dstAddr.toNat + s.outLen.toNat ≤ s.memBytes := not_not.1 h2
    rw [State.memRead_of_valid (not_not.1 h1), State.memWrite_of_valid (by simpa using h2)]
    have := CommandOutcome.stored (i := .mgf1) (s := s) (d := s.digest) (sd := s.seed) (sv := s.seedValid)
      (v := mgf1 (s.lmem.readBytes s.src.addr s.src.len) s.outLen.toNat) (by simpa using h2) (by decide) (by simp) (by simp)
    rwa [mgf1_length] at this
  | oaepEnc =>
    refine .check (by decide) fun h0 => .check (by decide) fun _ => .check (by decide) fun h1 => .check (by decide) fun h2 =>
      .check (by decide) fun _ => ?_
    have h2 : s.dstAddr.toNat + s.kLen.toNat ≤ s.memBytes := not_not.1 h2
    have hlen : (oaepEncode (s.lmem.readBytes s.src.addr s.src.len) s.kLen.toNat s.seedBytes).length = s.kLen.toNat :=
      oaepEncode_length (by simp; omega) (by simp [State.seedBytes])
    rw [State.memRead_of_valid (not_not.1 h1), State.memWrite_of_valid (by rw [hlen]; exact h2)]
    have := CommandOutcome.stored (i := .oaepEnc) (s := s) (d := s.digest) (sd := .replicate 8 0#32) (sv := false)
      (v := oaepEncode (s.lmem.readBytes s.src.addr s.src.len) s.kLen.toNat s.seedBytes) (by rw [hlen]; exact h2)
      (by decide) (by simp) (by simp)
    rwa [hlen] at this
  | oaepDec =>
    refine .check (by decide) fun _ => .check (by decide) fun h1 => .check (by decide) fun h2 => .check (by decide) fun _ => ?_
    have h2 : s.dstAddr.toNat + (s.kLen.toNat - 66) ≤ s.memBytes := not_not.1 h2
    rw [State.memRead_of_valid (not_not.1 h1)]
    split
    · next e he =>
      rcases oaepDecode_error he with rfl | rfl | rfl <;> split_ifs <;> exact .raised _ _ (by decide)
    · next m hm =>
      have hlen := oaepDecode_length hm
      rw [State.memWrite_of_valid (by omega)]
      exact .stored (v := m) (by omega) (by decide) (by simp) (by simp)
  | b64Enc =>
    refine .check (by decide) fun h1 => .check (by decide) fun h2 => .check (by decide) fun _ => ?_
    have h2 : s.dstAddr.toNat + b64TextLen s.srcLen.toNat ≤ s.memBytes := not_not.1 h2
    rw [State.memRead_of_valid (not_not.1 h1), State.memWrite_of_valid (by simpa using h2)]
    have := CommandOutcome.stored (i := .b64Enc) (s := s) (d := s.digest) (sd := s.seed) (sv := s.seedValid)
      (v := b64Encode (s.lmem.readBytes s.src.addr s.src.len)) (by simpa using h2) (by decide) (by simp) (by simp)
    rwa [b64Encode_length, Memory.readBytes_length] at this
  | b64Dec =>
    refine .check (by decide) fun h0 => .check (by decide) fun h1 => ?_
    rw [State.memRead_of_valid (not_not.1 h1)]
    refine .check (by decide) fun h2 => .check (by decide) fun _ => ?_
    split
    · next e he => rcases b64Scan_error he with rfl | rfl <;> exact .raised _ _ (by decide)
    · have h2 : s.dstAddr.toNat + b64DecodedLen (s.lmem.readBytes s.src.addr s.src.len) ≤ s.memBytes := not_not.1 h2
      have hlen := b64Decode_length (s := s.lmem.readBytes s.src.addr s.src.len) (by simpa using h0)
      rw [State.memWrite_of_valid (by rw [hlen]; exact h2)]
      have := CommandOutcome.stored (i := .b64Dec) (s := s) (d := s.digest) (sd := s.seed) (sv := s.seedValid)
        (v := b64Decode (s.lmem.readBytes s.src.addr s.src.len)) (by rw [hlen]; exact h2) (by decide) (by simp) (by simp)
      rwa [hlen] at this

end Sys2Proof.Machine
end

