-- ==== Sys2Proof/Laws/PerInstr.lean ====
section
/-! SUPPORT. The families of facts about every command as syntax, one lemma per constructor of Instr. -/

namespace Sys2Proof.Laws.EncodesLegal

/-- A command is well formed and its word is legal: RSV = 0 and OP assigned (R80, R82). -/
def Statement (i : Instr) : Prop := i.wellFormed = true ∧ commandWordLegal (encode i) = true

theorem keccakF : Statement .keccakF := by unfold Statement; decide
theorem sha3Init : Statement .sha3Init := by unfold Statement; decide
theorem sha3Absorb : Statement .sha3Absorb := by unfold Statement; decide
theorem sha3Final : Statement .sha3Final := by unfold Statement; decide
theorem sha3Hash : Statement .sha3Hash := by unfold Statement; decide
theorem mgf1 : Statement .mgf1 := by unfold Statement; decide
theorem oaepEnc : Statement .oaepEnc := by unfold Statement; decide
theorem oaepDec : Statement .oaepDec := by unfold Statement; decide
theorem b64Enc : Statement .b64Enc := by unfold Statement; decide
theorem b64Dec : Statement .b64Dec := by unfold Statement; decide

end Sys2Proof.Laws.EncodesLegal
end

