-- ==== Sys2Proof/Laws/Step.lean ====
section
/-! SUPPORT. The step, said once: what the engine's move and the host's accesses can do. -/

namespace Sys2Proof.Machine

/-- The engine's move (R210 item 4): nothing when idle, else the decoded command, or BAD_CMD for an illegal word. -/
theorem engineStep_cases (s : State) :
    (s.inFlight = none ∧ engineStep s = .next s) ∨
    (∃ w i, s.inFlight = some w ∧ decode w = .ok i ∧ engineStep s = exec i s) ∨
    (∃ w e, s.inFlight = some w ∧ decode w = .error e ∧ engineStep s = .next (s.failed .badCmd)) := by
  unfold engineStep
  cases hw : s.inFlight with
  | none => exact .inl ⟨rfl, rfl⟩
  | some w =>
    cases hd : decode w with
    | ok i => exact .inr (.inl ⟨w, i, rfl, hd, by simp [hd]⟩)
    | error e => exact .inr (.inr ⟨w, e, rfl, hd, by simp [hd, State.raise]⟩)

/-- One step (R210): the schedule's next agent moves; with an empty schedule the engine while busy, else the host. -/
theorem step_cases (s : State) :
    (∃ q, s.schedule = .host :: q ∧ step s = .next (s.withSchedule q).hostStep) ∨
    (∃ q, s.schedule = .engine :: q ∧ step s = engineStep (s.withSchedule q)) ∨
    (∃ q, s.schedule = .powerOn :: q ∧ step s = .next (s.withSchedule q).powerOnReset) ∨
    (s.schedule = [] ∧ s.busy = true ∧ step s = engineStep s) ∨
    (s.schedule = [] ∧ s.busy = false ∧ step s = .next s.hostStep) := by
  unfold step
  rcases h : s.schedule with - | ⟨a, q⟩
  · cases hb : s.busy <;> simp
  · cases a <;> simp

theorem State.busy_eq_true {s : State} : s.busy = true ↔ ∃ w, s.inFlight = some w := Option.isSome_iff_exists

theorem State.busy_eq_false {s : State} : s.busy = false ↔ s.inFlight = none := by
  simp [State.busy]

/-- While BUSY = 1 a droppable write only sets WBUSY (R26). -/
theorem State.droppable_of_busy {s : State} (h : s.busy = true) (t : State) :
    s.droppable t = { s with wbusy := true } := if_pos h

/-- While BUSY = 0 a droppable write has its effect (R26). -/
theorem State.droppable_of_idle {s : State} (h : s.busy = false) (t : State) : s.droppable t = t := by
  simp [State.droppable, h]

/-- While BUSY = 0 a host read returns the register's value (R25). -/
theorem State.hostRead_of_idle {s : State} (h : s.busy = false) (off : Word) :
    s.hostRead off = s.regValue (targetAt s.memBytes off.toNat) := by
  simp [State.hostRead, h]

/-- While BUSY = 0 a host read has no effect at all (R69). -/
theorem State.afterRead_of_idle {s : State} (h : s.busy = false) (off : Word) : s.afterRead off = s := by
  simp [State.afterRead, h]

/-- A host read changes nothing but the count of draws (R69). -/
theorem State.afterRead_eq (s : State) (off : Word) : s.afterRead off = { s with draws := (s.afterRead off).draws } := by
  unfold State.afterRead
  split <;> rfl

/-- What an access leaves: the state after a read (only `draws` differs), after a write, or the state itself, with the
queue and the answer updated. -/
theorem State.access_cases (s : State) (rest : List HostAccess) (acc : HostAccess) :
    ∃ q r, (∃ n, s.access rest acc = ({ s with draws := n }).answered q r) ∨
      (∃ off v, s.access rest acc = (s.hostWrite off v).answered q r) := by
  cases acc with
  | read w off =>
    by_cases h : admitted w off = true
    · exact ⟨_, _, .inl ⟨(s.afterRead off).draws, by
        simp only [State.access, if_pos h]; rw [← State.afterRead_eq]⟩⟩
    · exact ⟨_, _, .inl ⟨s.draws, by simp only [State.access, if_neg h]; rfl⟩⟩
  | write w off v =>
    by_cases h : admitted w off = true
    · exact ⟨_, _, .inr ⟨off, v, by simp only [State.access, if_pos h]; rfl⟩⟩
    · exact ⟨_, _, .inl ⟨s.draws, by simp only [State.access, if_neg h]; rfl⟩⟩
  | poll off mask val =>
    by_cases h : admitted .w32 off = true
    · exact ⟨_, _, .inl ⟨(s.afterRead off).draws, by
        simp only [State.access, if_pos h]; rw [← State.afterRead_eq]⟩⟩
    · exact ⟨_, _, .inl ⟨s.draws, by simp only [State.access, if_neg h]; rfl⟩⟩

theorem namedRegisters_ne_lmem (k a : Nat) : namedRegisters.getD k .reserved ≠ .lmem a := by
  by_cases hk : k < 12
  · interval_cases k <;> simp [namedRegisters]
  · rw [List.getD_eq_default _ _ (by simpa [namedRegisters] using hk)]
    simp

/-- The register map names an LMEM word only inside LMEM (R25, R43). -/
theorem targetAt_lmem {n off a : Nat} (h : targetAt n off = .lmem a) : off = 0x1000 + a ∧ a < n := by
  unfold targetAt at h
  split at h
  · exact absurd h (namedRegisters_ne_lmem _ _)
  · split_ifs at h
    simp only [Target.lmem.injEq] at h
    omega

/-- Every address of LMEM has its place in the window (R25, R43). -/
theorem targetAt_window {n a : Nat} (h : a < n) : targetAt n (0x1000 + a) = .lmem a := by
  unfold targetAt
  split
  · omega
  · split_ifs with h1 h2 h3 h4 <;> first | omega | simp

end Sys2Proof.Machine
end

