-- ==== Sys2Proof/Tests/Slice0.lean ====
section
/-! SUPPORT. Small checks of the model: what WellFormed refuses, every command's word written out from the opcode table,
vectors of spec/95_test_vectors.md, and for every statement with hypotheses a witness that meets them. -/

namespace Sys2Proof.Tests

open Sys2Proof.Machine

/-! ## WellFormed and Decode -/

/-- RSV = 1 (R80). -/
theorem test_rsv_refused : rsvClear 0x00000101#32 = false ∧ commandWordLegal 0x00000101#32 = false := by decide

/-- OP 0x06 is unassigned (R83). -/
theorem test_op_refused : opAssigned 0x00000006#32 = false ∧ commandWordLegal 0x00000006#32 = false := by decide

/-- MEM_BYTES must be a multiple of 4, at least 1024 and at most 2^24 (R7). -/
theorem test_memBytes_refused :
    ¬ MemBytesOk 4098 ∧ ¬ MemBytesOk 1020 ∧ ¬ MemBytesOk (2 ^ 24 + 4) ∧ MemBytesOk 1024 ∧ MemBytesOk (2 ^ 24) := by decide

/-- Every command is well formed: a command word has no operand that could be wrong (R81). -/
theorem test_wellFormed : ∀ i ∈ [Instr.keccakF, .sha3Init, .sha3Absorb, .sha3Final, .sha3Hash, .mgf1, .oaepEnc, .oaepDec,
    .b64Enc, .b64Dec], i.wellFormed = true := by decide

-- The words of R82, bit by bit: RSV (24 bits), then OP (8 bits).
theorem test_decode_keccakF : decode 0b000000000000000000000000_00000001#32 = .ok .keccakF := by decide
theorem test_decode_sha3Init : decode 0b000000000000000000000000_00000010#32 = .ok .sha3Init := by decide
theorem test_decode_sha3Absorb : decode 0b000000000000000000000000_00000011#32 = .ok .sha3Absorb := by decide
theorem test_decode_sha3Final : decode 0b000000000000000000000000_00000100#32 = .ok .sha3Final := by decide
theorem test_decode_sha3Hash : decode 0b000000000000000000000000_00000101#32 = .ok .sha3Hash := by decide
theorem test_decode_mgf1 : decode 0b000000000000000000000000_00010000#32 = .ok .mgf1 := by decide
theorem test_decode_oaepEnc : decode 0b000000000000000000000000_00100000#32 = .ok .oaepEnc := by decide
theorem test_decode_oaepDec : decode 0b000000000000000000000000_00100001#32 = .ok .oaepDec := by decide
theorem test_decode_b64Enc : decode 0b000000000000000000000000_00110000#32 = .ok .b64Enc := by decide
theorem test_decode_b64Dec : decode 0b000000000000000000000000_00110001#32 = .ok .b64Dec := by decide

/-- Illegal words are rejected by name (R83). -/
theorem test_decode_illegal :
    decode 0x00000000#32 = .error .unassignedOp ∧ decode 0x00000011#32 = .error .unassignedOp ∧
    decode 0x000000FF#32 = .error .unassignedOp ∧ decode 0x80000001#32 = .error .reservedBits := by decide

/-- The table's own view of a word. -/
theorem test_decodeTableWord : decodeTableWord 32 0x21 = some .oaepDec ∧ decodeTableWord 32 0x22 = none := by decide

/-- `sha3.final dst` (R87): three bus transactions. -/
theorem test_pseudo_sha3Final : (Pseudo.sha3Final 0x400#32).expand =
    [.write .w32 0x01C#32 0x400#32, .write .w32 0x010#32 0x00000004#32, .poll 0x00C#32 0x1#32 0x0#32] := by decide

/-- `lmem.store 8, "6162636465"` (R87): the last group is padded with zeros. -/
theorem test_pseudo_lmemStore : (Pseudo.lmemStore 8 [0x61#8, 0x62#8, 0x63#8, 0x64#8, 0x65#8]).expand =
    [.write .w32 0x1008#32 0x64636261#32, .write .w32 0x100C#32 0x00000065#32] := by decide

/-! ## Vectors of spec/95_test_vectors.md -/

/-- The small state of the tests: given operands and LMEM from address 0, everything else as after reset. -/
def given (sa sl da ol kl : Word) (b : List Byte) : State :=
  { State.reset with
    srcAddr := sa, srcLen := sl, dstAddr := da, outLen := ol, kLen := kl, lmem := Memory.writeBytes [] 0 b }

/-- The state a meaning leaves; the given one if it stops. -/
def after (r : Result) (s : State) : State :=
  match r with
  | .next t => t
  | .fault _ | .refused _ => s

/-- The lanes of KF3: lane i holds i. -/
def ramp : Lanes := .build fun x y => BitVec.ofNat 64 (x + 5 * y)

/-- KF3, lane 24 after θ, lane 19 after ρ and π, lane 7 after χ, lane 0 after ι. -/
theorem test_KF3 : (theta ramp)[24] = 0x33#64 ∧ (rhoPi (theta ramp))[19] = 0x0900000000000000#64 ∧
    (chi (rhoPi (theta ramp)))[7] = 0x2000000000000083#64 ∧ (keccakRound ramp 0)[0] = 0x000018000000001B#64 := by
  decide +kernel

/-- KF1, lane 0: KECCAK_F after reset. -/
theorem test_KF1 : (after (exec .keccakF State.reset) State.reset).sponge.a[0] = 0xF1258F7940E1DDE7#64 := by
  decide +kernel

/-- The example of R121. -/
theorem test_sha3Init :
    (after (exec .sha3Init State.reset) State.reset).regValue .sponge = 0x00000100#32 := by decide

/-- SP2: "abc" absorbed after SHA3_INIT. -/
theorem test_SP2 :
    let s := { given 0#32 3#32 0#32 0#32 0#32 [0x61#8, 0x62#8, 0x63#8] with phase := .absorb }
    let t := after (exec .sha3Absorb s) s
    t.sponge.pos = 3 ∧ t.sponge.a[0] = 0x0000000000636261#64 ∧ t.regValue .sponge = 0x103#32 := by decide +kernel

/-- SP4, lane 0: SHA3_FINAL straight after SHA3_INIT. -/
theorem test_SP4 :
    let s := { State.reset with phase := .absorb }
    (after (exec .sha3Final s) s).sponge.a[0] = 0x66D71EBFF8C6FFA7#64 := by decide +kernel

/-- SH2, the first word of the digest of "abc". -/
theorem test_SH2 :
    let s := given 0#32 3#32 64#32 0#32 0#32 [0x61#8, 0x62#8, 0x63#8]
    (after (exec .sha3Hash s) s).digest[0] = 0xA75D983A#32 := by decide +kernel

/-- MG2: one byte of the mask of the empty string. -/
theorem test_MG2 :
    let s := given 0#32 0#32 64#32 1#32 0#32 []
    (after (exec .mgf1 s) s).lmem.read 64 = 0x8B#8 := by decide +kernel

/-- OE1, the last byte of the block: the separator under the second digest of the mask. -/
theorem test_OE1 :
    (oaepEncode [] 66 ((List.range 32).map (BitVec.ofNat 8))).getD 65 0#8 = 0xA8#8 := by decide +kernel

/-- OAEP_ENC without a seed, and with a block too short for even the empty message (R150). -/
theorem test_oaepEnc_errors :
    let s := given 0#32 0#32 64#32 0#32 66#32 []
    let t := given 0#32 0#32 64#32 0#32 65#32 []
    (after (exec .oaepEnc s) s).errCode = .noSeed ∧ (after (exec .oaepEnc t) t).errCode = .msgTooLong := by decide

/-- OAEP_DEC of a block too short, and of one whose destination could not hold the longest message (R151). -/
theorem test_oaepDec_errors :
    let s := given 0#32 0#32 200#32 0#32 65#32 []
    let t := given 0#32 0#32 4096#32 0#32 67#32 []
    (after (exec .oaepDec s) s).errCode = .modTooSmall ∧ (after (exec .oaepDec t) t).errCode = .dstRange := by decide

/-- BE7: `foobar`. -/
theorem test_BE7 :
    let s := given 0#32 6#32 16#32 0#32 0#32 [0x66#8, 0x6F#8, 0x6F#8, 0x62#8, 0x61#8, 0x72#8]
    let t := after (exec .b64Enc s) s
    t.resultLen = 8#32 ∧
      t.lmem.readBytes 16 8 = [0x5A#8, 0x6D#8, 0x39#8, 0x76#8, 0x59#8, 0x6D#8, 0x46#8, 0x79#8] := by decide +kernel

/-- BE8, the two last characters of the alphabet: 00 ff fe gives `AP/+`. -/
theorem test_BE8 : b64Encode [0x00#8, 0xFF#8, 0xFE#8] = [0x41#8, 0x50#8, 0x2F#8, 0x2B#8] := by decide

/-- BD8: `QUJ=`. -/
theorem test_BD8 :
    let s := given 0#32 4#32 16#32 0#32 0#32 [0x51#8, 0x55#8, 0x4A#8, 0x3D#8]
    let t := after (exec .b64Dec s) s
    t.resultLen = 2#32 ∧ t.lmem.readBytes 16 3 = [0x41#8, 0x42#8, 0x00#8] := by decide +kernel

/-- BD12, BD21, BD22: the first bad character decides. -/
theorem test_b64_errors :
    b64Scan [0x61#8, 0x3D#8, 0x3D#8, 0x3D#8] = some .b64Pad ∧
    b64Scan [0x5A#8, 0x3D#8, 0x39#8, 0x76#8, 0x21#8, 0x67#8, 0x3D#8, 0x3D#8] = some .b64Pad ∧
    b64Scan [0x5A#8, 0x21#8, 0x39#8, 0x76#8, 0x3D#8, 0x67#8, 0x3D#8, 0x3D#8] = some .b64Char := by decide

/-! ## Witnesses: the hypotheses of the statements can be met -/

/-- SHA3_INIT in flight. -/
def flying : State := State.reset.issue (encode .sha3Init)

theorem witness_Inv_busy : flying.Inv ∧ flying.busy = true :=
  ⟨⟨by decide, Memory.wf_nil, Memory.within_nil _, by decide, by rintro w h; cases h; rfl, by decide, by decide⟩, rfl⟩

/-- StepKeepsTheInvariant; EveryCommandCompletesOnce, its completion clause. -/
theorem witness_step_completes : flying.Inv ∧ flying.busy = true ∧ ∃ t, step flying = .next t ∧ t.done = true :=
  ⟨witness_Inv_busy.1, rfl, _, rfl, rfl⟩

/-- EveryCommandCompletesOnce: the command stays in flight over a host turn, or a soft reset abandons it. -/
theorem witness_step_host :
    (∃ t, step { flying with schedule := [.host] } = .next t ∧ t.inFlight = flying.inFlight ∧ t.done = false) ∧
    (∃ t, step { flying with schedule := [.host], hostQueue := [.write .w32 0x008#32 0x80000000#32] } = .next t ∧
      t.busy = false ∧ t.done = false) ∧
    (0x80000000#32).getLsbD 31 = true := ⟨⟨_, rfl, rfl, rfl⟩, ⟨_, rfl, rfl, rfl⟩, by decide⟩

/-- EveryCommandCompletesOnce: an idle step with DONE set before and after. -/
theorem witness_idle_done : ({ State.reset with done := true }).busy = false ∧
    ∃ t, step { State.reset with done := true } = .next t ∧ t.done = true := ⟨rfl, _, rfl, rfl⟩

/-- CommandEndsWithinTheSchedule: a command in flight behind two host turns. -/
theorem witness_schedule : ({ flying with schedule := [.host, .host] }).busy = true := rfl

/-- StepRunsTheDecodedCommand. -/
theorem witness_step_runs :
    (flying.inFlight = some 0x00000002#32 ∧ decode 0x00000002#32 = .ok .sha3Init ∧ flying.schedule = []) ∧
    ({ flying with schedule := [.engine, .host] }).schedule = .engine :: [.host] ∧
    (({ State.reset with schedule := [.engine] }).schedule = .engine :: [] ∧
      ({ State.reset with schedule := [.engine] }).inFlight = none) ∧
    ({ State.reset with schedule := [.powerOn] }).schedule = .powerOn :: [] ∧
    ({ State.reset with schedule := [.host] }).schedule = .host :: [] ∧
    State.reset.schedule = [] ∧ State.reset.inFlight = none ∧ State.reset.hostQueue = [] := by decide

/-- IllegalWordsIssueAndFailWithBadCmd: an illegal word of each kind, issued while idle and then in flight. -/
theorem witness_illegal :
    decode 0x000000FF#32 = .error .unassignedOp ∧ decode 0x00000100#32 = .error .reservedBits ∧
    State.reset.busy = false ∧ (State.reset.issue 0x000000FF#32).inFlight = some 0x000000FF#32 := by decide

/-- CmdWriteIssues: idle and busy. -/
theorem witness_cmdWrite : State.reset.busy = false ∧ flying.busy = true := by decide

/-- ErrorsArePrecise: SHA3_ABSORB outside ABSORB fails. -/
theorem witness_error : (State.reset.issue (encode .sha3Absorb)).busy = true ∧
    ∃ t, engineStep (State.reset.issue (encode .sha3Absorb)) = .next t ∧ t.err = true := ⟨rfl, _, rfl, rfl⟩

/-- ErrorCodesAndWhoRaisesThem: a command fails. -/
theorem witness_raises : ∃ t, exec .sha3Absorb State.reset = .next t ∧ t.err = true := ⟨_, rfl, rfl⟩

/-- FirstFailedCheckDecidesTheCode, the sponge commands, at the end of LMEM (MEM_BYTES = 4096). -/
theorem witness_checks_sponge :
    State.reset.phase ≠ .absorb ∧
    (let s := { given 4096#32 1#32 4065#32 0#32 0#32 [] with phase := .absorb };
      s.phase = .absorb ∧ ¬ s.valid s.src ∧ ¬ s.valid (s.dst 32)) ∧
    (let s := given 4096#32 0#32 4065#32 0#32 0#32 []; s.valid s.src ∧ ¬ s.valid (s.dst 32)) ∧
    (let s := given 0#32 33#32 32#32 0#32 0#32 [];
      s.valid s.src ∧ s.valid (s.dst 32) ∧ s.src.overlaps (s.dst 32)) ∧
    (let s := given 0xFFFFFFFF#32 2#32 0#32 0#32 0#32 []; ¬ s.valid s.src) := by decide

/-- FirstFailedCheckDecidesTheCode, MGF1 and B64_ENC. -/
theorem witness_checks_mgf1_b64Enc :
    (let s := given 4095#32 2#32 0#32 1#32 0#32 []; ¬ s.valid s.src) ∧
    (let s := given 0#32 4#32 4090#32 7#32 0#32 [];
      s.valid s.src ∧ ¬ s.valid (s.dst s.outLen.toNat) ∧ ¬ s.valid (s.dst (b64TextLen s.srcLen.toNat))) ∧
    (let s := given 0#32 4#32 3#32 1#32 0#32 [];
      s.valid s.src ∧ s.valid (s.dst s.outLen.toNat) ∧ s.src.overlaps (s.dst s.outLen.toNat) ∧
      s.valid (s.dst (b64TextLen s.srcLen.toNat)) ∧ s.src.overlaps (s.dst (b64TextLen s.srcLen.toNat))) := by decide

/-- FirstFailedCheckDecidesTheCode, OAEP_ENC: each check fails with the earlier ones passed. -/
theorem witness_checks_oaepEnc :
    (let s := given 0#32 1#32 0#32 0#32 66#32 []; s.kLen.toNat < s.srcLen.toNat + 66) ∧
    (let s := given 0#32 0#32 0#32 0#32 66#32 []; s.srcLen.toNat + 66 ≤ s.kLen.toNat ∧ s.seedValid = false) ∧
    (let s := { given 4096#32 1#32 0#32 0#32 67#32 [] with seedValid := true };
      s.srcLen.toNat + 66 ≤ s.kLen.toNat ∧ s.seedValid = true ∧ ¬ s.valid s.src) ∧
    (let s := { given 0#32 1#32 4030#32 0#32 67#32 [] with seedValid := true };
      s.srcLen.toNat + 66 ≤ s.kLen.toNat ∧ s.seedValid = true ∧ s.valid s.src ∧ ¬ s.valid (s.dst s.kLen.toNat)) ∧
    (let s := { given 66#32 1#32 0#32 0#32 67#32 [] with seedValid := true };
      s.srcLen.toNat + 66 ≤ s.kLen.toNat ∧ s.seedValid = true ∧ s.valid s.src ∧ s.valid (s.dst s.kLen.toNat) ∧
      s.src.overlaps (s.dst s.kLen.toNat)) := by decide

/-- FirstFailedCheckDecidesTheCode, OAEP_DEC: each range check fails with the earlier ones passed. -/
theorem witness_checks_oaepDec :
    (let s := given 0#32 0#32 0#32 0#32 65#32 []; s.kLen.toNat < 66) ∧
    (let s := given 4031#32 0#32 0#32 0#32 66#32 []; 66 ≤ s.kLen.toNat ∧ ¬ s.valid s.srcBlock) ∧
    (let s := given 0#32 0#32 4096#32 0#32 67#32 [];
      66 ≤ s.kLen.toNat ∧ s.valid s.srcBlock ∧ ¬ s.valid (s.dst (s.kLen.toNat - 66))) ∧
    (let s := given 0#32 0#32 66#32 0#32 67#32 [];
      66 ≤ s.kLen.toNat ∧ s.valid s.srcBlock ∧ s.valid (s.dst (s.kLen.toNat - 66)) ∧
      s.srcBlock.overlaps (s.dst (s.kLen.toNat - 66))) := by decide

/-- FirstFailedCheckDecidesTheCode, B64_DEC: each check fails with the earlier ones passed. -/
theorem witness_checks_b64Dec :
    (let s := given 0#32 3#32 0#32 0#32 0#32 []; s.srcLen.toNat % 4 ≠ 0) ∧
    (let s := given 4093#32 4#32 0#32 0#32 0#32 []; s.srcLen.toNat % 4 = 0 ∧ ¬ s.valid s.src) ∧
    (let s := given 0#32 4#32 4094#32 0#32 0#32 [];
      let text := s.lmem.readBytes s.srcAddr.toNat s.srcLen.toNat;
      s.srcLen.toNat % 4 = 0 ∧ s.valid s.src ∧ ¬ s.valid (s.dst (3 * s.srcLen.toNat / 4 - b64PadCount text))) ∧
    (let s := given 0#32 4#32 3#32 0#32 0#32 [];
      let text := s.lmem.readBytes s.srcAddr.toNat s.srcLen.toNat;
      s.valid s.src ∧ s.valid (s.dst (3 * s.srcLen.toNat / 4 - b64PadCount text)) ∧
      s.src.overlaps (s.dst (3 * s.srcLen.toNat / 4 - b64PadCount text))) ∧
    (let s := given 0#32 4#32 4#32 0#32 0#32 [];
      let text := s.lmem.readBytes s.srcAddr.toNat s.srcLen.toNat;
      s.valid s.src ∧ s.valid (s.dst (3 * s.srcLen.toNat / 4 - b64PadCount text)) ∧
      ¬ s.src.overlaps (s.dst (3 * s.srcLen.toNat / 4 - b64PadCount text)) ∧ b64Scan text = some .b64Char) := by decide

/-- The block of k = 66 that masks db (33 bytes) with a zero seed (R146). -/
def masked (db : List Byte) : List Byte :=
  0x00#8 :: (xorBytes (zeros 32) (mgf1 (xorBytes db (mgf1 (zeros 32) (66 - 33))) 32)
    ++ xorBytes db (mgf1 (zeros 32) (66 - 33)))

/-- A 66-byte block whose DB is lHash and one more byte decodes as that byte does (OD5 and OD7 are such blocks). -/
theorem masked_decodes (b : Byte) : ∃ em : List Byte, em.length = 66 ∧ oaepDecode em 66 = oaepUnpad [b] := by
  refine ⟨masked (lHash ++ [b]), by simp [masked], ?_⟩
  have h : oaepRecoverDb (masked (lHash ++ [b])) 66 = lHash ++ [b] := oaepRecoverDb_masked (by simp) (by simp)
  rw [oaepDecode, h, List.take_left' lHash_length, List.drop_left' lHash_length, if_neg (by simp)]

/-- The block at address 0, K_LEN = 66, the destination at address 66. -/
def blockState (em : List Byte) : State := given 0#32 0#32 66#32 0#32 66#32 em

theorem blockState_source {em : List Byte} (h : em.length = 66) :
    (blockState em).lmem.readBytes (blockState em).srcAddr.toNat (blockState em).kLen.toNat = em := by
  have := Memory.readBytes_writeBytes Memory.wf_nil 0 em
  rwa [h] at this

theorem blockState_regions (em : List Byte) :
    66 ≤ (blockState em).kLen.toNat ∧ (blockState em).valid (blockState em).srcBlock ∧
    (blockState em).valid ((blockState em).dst ((blockState em).kLen.toNat - 66)) ∧
    ¬ (blockState em).srcBlock.overlaps ((blockState em).dst ((blockState em).kLen.toNat - 66)) := by
  have h1 : (blockState em).kLen.toNat = 66 := rfl
  have h2 : (blockState em).srcAddr.toNat = 0 := rfl
  have h3 : (blockState em).dstAddr.toNat = 66 := rfl
  have h4 : (blockState em).memBytes = 4096 := rfl
  simp only [State.valid, Region.overlaps, State.srcBlock, State.dst, h1, h2, h3, h4]
  omega

/-- FirstFailedCheckDecidesTheCode and StoringCommandsChangeOnlyTheirBytes: a block that fails to decode. -/
theorem witness_block_fails : ∃ s : State, 66 ≤ s.kLen.toNat ∧ s.valid s.srcBlock ∧
    s.valid (s.dst (s.kLen.toNat - 66)) ∧ ¬ s.srcBlock.overlaps (s.dst (s.kLen.toNat - 66)) ∧
    oaepDecode (s.lmem.readBytes s.srcAddr.toNat s.kLen.toNat) s.kLen.toNat = .error .noSeparator := by
  obtain ⟨em, hl, hd⟩ := masked_decodes 0x00#8
  obtain ⟨h1, h2, h3, h4⟩ := blockState_regions em
  exact ⟨blockState em, h1, h2, h3, h4, by rw [blockState_source hl]; exact hd⟩

/-- OaepDecWritesTheMessage and StoringCommandsChangeOnlyTheirBytes: a block that decodes. -/
theorem witness_block_decodes : ∃ (s : State) (m : List Byte), 66 ≤ s.kLen.toNat ∧ s.valid s.srcBlock ∧
    s.valid (s.dst (s.kLen.toNat - 66)) ∧ ¬ s.srcBlock.overlaps (s.dst (s.kLen.toNat - 66)) ∧
    oaepDecode (s.lmem.readBytes s.srcAddr.toNat s.kLen.toNat) s.kLen.toNat = .ok m := by
  obtain ⟨em, hl, hd⟩ := masked_decodes 0x01#8
  obtain ⟨h1, h2, h3, h4⟩ := blockState_regions em
  exact ⟨blockState em, [], h1, h2, h3, h4, by rw [blockState_source hl]; exact hd⟩

/-- Sha3Absorb…, Sha3Final…, Sha3Hash…, Mgf1…, B64Enc…: the phase, valid regions that touch, at the end of LMEM. -/
theorem witness_results :
    (let s := { given 4096#32 0#32 4064#32 0#32 0#32 [] with phase := .absorb };
      s.phase = .absorb ∧ s.valid s.src ∧ s.srcLen = 0#32 ∧ s.valid (s.dst 32) ∧ s.lmem.wf) ∧
    (let s := given 0#32 4064#32 4064#32 32#32 0#32 [];
      s.valid s.src ∧ s.valid (s.dst 32) ∧ ¬ s.src.overlaps (s.dst 32) ∧
      s.valid (s.dst s.outLen.toNat) ∧ ¬ s.src.overlaps (s.dst s.outLen.toNat)) ∧
    (let s := given 0#32 3#32 4092#32 0#32 0#32 [];
      s.valid s.src ∧ s.valid (s.dst (4 * ((s.srcLen.toNat + 2) / 3))) ∧
      ¬ s.src.overlaps (s.dst (4 * ((s.srcLen.toNat + 2) / 3)))) := by decide

/-- OaepEncWritesTheBlock: the smallest block, at the end of LMEM, and it completes. -/
theorem witness_oaepEnc :
    let s := { given 0#32 0#32 4030#32 0#32 66#32 [] with seedValid := true }
    s.srcLen.toNat + 66 ≤ s.kLen.toNat ∧ s.seedValid = true ∧ s.valid s.src ∧ s.valid (s.dst s.kLen.toNat) ∧
      ¬ s.src.overlaps (s.dst s.kLen.toNat) := by decide

/-- B64DecWritesTheBytes: `QUJ=`. -/
theorem witness_b64Dec :
    let s := given 0#32 4#32 4#32 0#32 0#32 [0x51#8, 0x55#8, 0x4A#8, 0x3D#8]
    let text := s.lmem.readBytes s.srcAddr.toNat s.srcLen.toNat
    s.srcLen.toNat % 4 = 0 ∧ s.valid s.src ∧ s.valid (s.dst (3 * s.srcLen.toNat / 4 - b64PadCount text)) ∧
      ¬ s.src.overlaps (s.dst (3 * s.srcLen.toNat / 4 - b64PadCount text)) ∧ b64Scan text = none := by decide +kernel

/-- Every command answers a next state, so the frames and PhaseFollowsItsTable are about something. -/
theorem witness_frames (i : Instr) (s : State) : ∃ t, exec i s = .next t := by
  rcases exec_cases i s with ⟨e, -, h⟩ | ⟨c, p, d, sd, sv, v, h, -⟩ <;> exact ⟨_, h⟩

/-- StoringCommandsChangeOnlyTheirBytes: LMEM in canonical form, and addresses outside the stored bytes, below and above. -/
theorem witness_outside : State.reset.lmem.wf ∧ ¬ (State.reset.dst 32).contains 32 ∧
    ¬ (({ State.reset with dstAddr := 1#32 }).dst 32).contains 0 := ⟨Memory.wf_nil, by decide, by decide⟩

/-- PhaseFollowsItsTable: SHA3_ABSORB and SHA3_FINAL in ABSORB and outside, and a success of SHA3_FINAL. -/
theorem witness_phase : ({ State.reset with phase := .absorb }).phase = .absorb ∧ State.reset.phase ≠ .absorb ∧
    (∃ t, exec .sha3Final { State.reset with phase := .absorb } = .next t ∧ t.err = false) ∧
    ∃ t, exec .sha3Final State.reset = .next t ∧ t.err = true := ⟨rfl, by decide, ⟨_, rfl, rfl⟩, ⟨_, rfl, rfl⟩⟩

/-- PrivateContextsLeaveTheStreamAlone, and StreamingEqualsOneShot's second clause: SHA3_256 in the middle of a stream. -/
theorem witness_ownContext :
    ∃ t, exec .sha3Hash { given 0#32 0#32 0#32 0#32 0#32 [] with phase := .absorb } = .next t ∧ t.err = false :=
  ⟨_, rfl, rfl⟩

/-- IrqIsEnableAndDone: the values written, and the offsets a busy host may write without touching IRQ. -/
theorem witness_irq : (0x2#32).getLsbD 1 = true ∧ (0x2#32).getLsbD 0 = false ∧ flying.busy = true ∧
    State.reset.busy = false ∧
    ((0x010#32).toNat % 4 = 0 ∧ (0x010#32).toNat ≠ 0x008 ∧ (0x010#32).toNat ≠ 0x00C) ∧
    ((0xFFFFFFFC#32).toNat % 4 = 0 ∧ (0xFFFFFFFC#32).toNat ≠ 0x008 ∧ (0xFFFFFFFC#32).toNat ≠ 0x00C) := by decide

/-- BusyReads, BusyWritesAreDropped and AdmittedAccessIsAnswered: busy and idle, and what the offsets name, at both ends
of every range. -/
theorem witness_targets : flying.busy = true ∧ State.reset.busy = false ∧
    flying.memBytes = 4096 ∧ State.reset.memBytes = 4096 ∧
    targetAt 4096 0x000 = .id ∧ targetAt 4096 0x004 = .memSize ∧ targetAt 4096 0x008 = .ctrl ∧
    targetAt 4096 0x00C = .status ∧ targetAt 4096 0x010 = .cmd ∧ targetAt 4096 0x014 = .srcAddr ∧
    targetAt 4096 0x018 = .srcLen ∧ targetAt 4096 0x01C = .dstAddr ∧ targetAt 4096 0x020 = .outLen ∧
    targetAt 4096 0x024 = .kLen ∧ targetAt 4096 0x028 = .resultLen ∧ targetAt 4096 0x02C = .sponge ∧
    targetAt 4096 0x030 = .reserved ∧ targetAt 4096 0x03C = .reserved ∧ targetAt 4096 0x040 = .digest 0 ∧
    targetAt 4096 0x05C = .digest 7 ∧ targetAt 4096 0x060 = .seed 0 ∧ targetAt 4096 0x07C = .seed 7 ∧
    targetAt 4096 0x080 = .reserved ∧ targetAt 4096 0x0FC = .reserved ∧ targetAt 4096 0x100 = .state 0 ∧
    targetAt 4096 0x1C4 = .state 49 ∧ targetAt 4096 0x1C8 = .reserved ∧ targetAt 4096 0xFFC = .reserved ∧
    targetAt 4096 0x1000 = .lmem 0 ∧ targetAt 4096 0x1FFC = .lmem 4092 ∧ targetAt 4096 0x2000 = .reserved := by decide

/-- HostCannotDisturbACommand: the host writes CTRL while SHA3_INIT is in flight. -/
theorem witness_disturb :
    let s := { flying with hostQueue := [.write .w32 0x008#32 0x3#32] }
    s.busy = true ∧ s.hostStep.busy = true ∧ s.hostStep ≠ s ∧ ∃ t, engineStep s = .next t :=
  ⟨rfl, by decide, by decide, _, rfl⟩

/-- UnadmittedAccessChangesNothing and AdmittedAccessIsAnswered. -/
theorem witness_access : (AccessWidth.w8 ≠ .w32 ∧ AccessWidth.w16 ≠ .w32 ∧ AccessWidth.w64 ≠ .w32) ∧
    (0x00E#32).toNat % 4 ≠ 0 ∧ (0x00C#32).toNat % 4 = 0 ∧ State.reset.hostRead 0x00C#32 &&& 1#32 = 0#32 ∧
    State.reset.hostRead 0x00C#32 &&& 1#32 ≠ 1#32 := by decide

/-- RegisterMapRoundTrip: the smallest, the reference and the largest LMEM, and the last word of each. -/
theorem witness_map : (MemBytesOk 1024 ∧ 1020 % 4 = 0 ∧ 1020 + 4 ≤ 1024) ∧ (MemBytesOk 4096 ∧ 4092 + 4 ≤ 4096) ∧
    (MemBytesOk (2 ^ 24) ∧ (2 ^ 24 - 4) % 4 = 0 ∧ 2 ^ 24 - 4 + 4 ≤ 2 ^ 24) ∧ targetAt 1024 0x1C4 ≠ .reserved ∧ 0x1C4 % 4 = 0 := by decide

/-- ControlWordsShowTheirFields and SoftResetKeepsLmemOutsideTheDestination: bit 31 clear and set. -/
theorem witness_ctrl : (0x7FFFFFFF#32).getLsbD 31 = false ∧ (0xFFFFFFFF#32).getLsbD 31 = true := by decide

/-- SeedIsInjectedAndConsumedOnce: OAEP_ENC succeeding and failing. -/
theorem witness_seed : State.reset.busy = false ∧ flying.busy = true ∧
    (∃ t, exec .oaepEnc { given 0#32 0#32 0#32 0#32 66#32 [] with seedValid := true } = .next t ∧ t.err = false) ∧
    ∃ t, exec .oaepEnc State.reset = .next t ∧ t.err = true := by
  refine ⟨rfl, rfl, ?_, _, rfl, rfl⟩
  generalize hs : ({ given 0#32 0#32 0#32 0#32 66#32 [] with seedValid := true } : State) = s
  have h0 : s.srcLen.toNat = 0 := by rw [← hs]; rfl
  have h1 : s.kLen.toNat = 66 := by rw [← hs]; rfl
  have h2 : s.valid s.src := by rw [← hs]; decide
  have h3 : s.valid (s.dst s.kLen.toNat) := by rw [← hs]; decide
  have h4 : ¬ s.src.overlaps (s.dst s.kLen.toNat) := by rw [← hs]; decide
  have h5 : s.seedValid = true := by rw [← hs]
  have hl : (oaepEncode (s.lmem.readBytes s.src.addr s.src.len) s.kLen.toNat s.seedBytes).length = s.kLen.toNat :=
    oaepEncode_length (by simp; omega) (by simp [State.seedBytes])
  exact ⟨_, by
    rw [exec, execOaepEnc, if_neg (by omega), if_neg (by simp [h5]), if_neg (not_not.2 h2), if_neg (not_not.2 h3),
      if_neg h4, State.memRead_of_valid h2, State.memWrite_of_valid (by rw [hl]; exact h3)]
    rfl, rfl⟩

/-- StateWindowIsTheKeccakState and LmemWindowIsLittleEndian: idle with LMEM in canonical form, busy, the first and the last
word of LMEM, and addresses outside the written word. -/
theorem witness_windows : State.reset.busy = false ∧ flying.busy = true ∧ State.reset.lmem.wf ∧
    ((0x1000#32).toNat = 0x1000 + 0 ∧ 0 % 4 = 0 ∧ 0 + 4 ≤ State.reset.memBytes) ∧
    ((0x1FFC#32).toNat = 0x1000 + 4092 ∧ 4092 % 4 = 0 ∧ 4092 + 4 ≤ State.reset.memBytes) ∧
    ¬ (4 ≤ 3 ∧ 3 < 4 + 4) ∧ ¬ (4 ≤ 8 ∧ 8 < 4 + 4) := by decide

/-- PowerOnResetsTheBlock and SoftResetKeepsLmemOutsideTheDestination: a power-on turn; no command, an illegal word and a
legal one in flight, with LMEM in canonical form. -/
theorem witness_resets : ({ State.reset with schedule := [.powerOn] }).schedule = .powerOn :: [] ∧
    State.reset.lmem.wf ∧ State.reset.inFlight = none ∧
    ((State.reset.issue 0#32).inFlight = some 0#32 ∧ decode 0#32 = .error .unassignedOp) ∧
    (flying.inFlight = some 2#32 ∧ decode 2#32 = .ok .sha3Init) :=
  ⟨rfl, Memory.wf_nil, rfl, by decide, by decide⟩

/-- MemReadAndMemWriteAreByteExact: all of LMEM, and the empty region at its end (R65). -/
theorem witness_regions : State.reset.valid ⟨0, 4096⟩ ∧ State.reset.valid ⟨4096, 0⟩ ∧ ¬ State.reset.valid ⟨4097, 0⟩ ∧
    State.reset.valid ⟨4095, [0xFF#8].length⟩ ∧ State.reset.lmem.wf := by decide

/-- RotationMovesBitsUp, ThetaChiIotaFormulas, RhoPiMovesEveryLane: the ends of the ranges. -/
theorem witness_ranges : (0 < 64 ∧ 63 < 64) ∧ (0 < 5 ∧ 4 < 5) := by decide

/-- StreamingEqualsOneShot: the empty string, then two zero bytes. -/
theorem witness_stream : ∃ s0 s1 s2 : State, exec .sha3Init s0 = .next s1 ∧
    streamRun s1 [[], [0x00#8, 0x00#8]] s2 ∧ s2.valid (s2.dst 32) := by
  let s1 := after (exec .sha3Init State.reset) State.reset
  let v := after (exec .sha3Absorb s1) s1
  let u : State := { v with srcLen := 2#32 }
  exact ⟨State.reset, s1, after (exec .sha3Absorb u) u, rfl,
    ⟨s1, v, rfl, rfl, by decide, by decide, rfl, u, _, rfl, rfl, by decide, by decide, rfl, rfl, rfl⟩, by decide⟩

/-- Mgf1ConcatenatesCounterDigests, EncodedBlockLayout and OaepRoundTrip: a mask across two digests, the largest counter,
the smallest block, and a message that fills its block. -/
theorem witness_oaep : (32 < 33 ∧ 33 ≤ 40) ∧ 2 ^ 32 - 1 < 2 ^ 32 ∧ ([] : List Byte).length + 66 ≤ 66 ∧ [0x41#8].length + 66 ≤ 67 ∧
    (zeros 32).length = 32 := by decide

/-- SeparatorScanOutcomes: a label that differs and one that agrees. -/
theorem witness_label : (oaepRecoverDb [] 66).take 32 ≠ lHash ∧
    ∃ em : List Byte, em.length = 66 ∧ (oaepRecoverDb em 66).take 32 = lHash := by
  refine ⟨fun h => ?_, masked (lHash ++ [0x01#8]), by simp [masked], ?_⟩
  · have := congrArg List.length h
    simp [oaepRecoverDb] at this
  · rw [show oaepRecoverDb (masked (lHash ++ [0x01#8])) 66 = _ from oaepRecoverDb_masked (by simp) (by simp),
      List.take_left' lHash_length]

/-- SeparatorScanOutcomes: the one-byte tails. -/
theorem witness_tails : oaepUnpad [0x01#8] = .ok [] ∧ oaepUnpad [0x00#8] = .error .noSeparator ∧
    oaepUnpad [0x02#8] = .error .badSeparator := ⟨rfl, rfl, rfl⟩

/-- EncodedTextLengthAndPadding: the groups of `M`, `Ma` and `Man`. -/
theorem witness_groups : 0x4D0000#24 = 0x4D#8 ++ 0#16 ∧ 0x4D6100#24 = 0x4D#8 ++ 0x61#8 ++ 0#8 ∧
    0x4D616E#24 = 0x4D#8 ++ 0x61#8 ++ 0x6E#8 := by decide

/-- Base64RoundTrip: `QUJ=` passes the checks, and its last byte is byte 1 of its one quad (BD8). -/
theorem witness_quad :
    let s := [0x51#8, 0x55#8, 0x4A#8, 0x3D#8]
    s.length % 4 = 0 ∧ b64Scan s = none ∧ 1 < 3 * s.length / 4 - b64PadCount s ∧ s[4 * (1 / 3)]? = some 0x51#8 ∧
    s[4 * (1 / 3) + 1]? = some 0x55#8 ∧ s[4 * (1 / 3) + 2]? = some 0x4A#8 ∧ s[4 * (1 / 3) + 3]? = some 0x3D#8 ∧
    0x414240#24 = BitVec.ofNat 6 ((b64Val 0x51#8).getD 0) ++ BitVec.ofNat 6 ((b64Val 0x55#8).getD 0) ++
      BitVec.ofNat 6 ((b64Val 0x4A#8).getD 0) ++ BitVec.ofNat 6 ((b64Val 0x3D#8).getD 0) := by decide

end Sys2Proof.Tests
end

section
/-! SUPPORT. What a command's step leaves behind, and the invariant along a step. -/

namespace Sys2Proof.Machine

variable {s t : State}

/-- The two ends of a command, read off a completed step: a failure that changes only its report, or a success. -/
theorem exec_next_cases {i : Instr} (h : exec i s = .next t) :
    (∃ e, e ≠ .ok ∧ t = s.failed e) ∨
    ∃ c p d sd sv v, t = (s.written c p d sd sv v).completed v.length ∧
      (v = [] ∨ s.dstAddr.toNat + v.length ≤ s.memBytes) ∧
      (p ≠ .absorb → c.pos = 0 ∨ c.pos = s.sponge.pos ∧ p = s.phase) ∧
      (i = .sha3Hash ∨ i = .mgf1 ∨ i = .oaepEnc ∨ i = .oaepDec ∨ i = .b64Enc ∨ i = .b64Dec → p = s.phase) := by
  rcases exec_cases i s with ⟨e, he, heq⟩ | ⟨c, p, d, sd, sv, v, heq, hv, hp, hown, -⟩
  · exact .inl ⟨e, he, Host.Outcome.next.inj (h.symm.trans heq)⟩
  · exact .inr ⟨c, p, d, sd, sv, v, Host.Outcome.next.inj (h.symm.trans heq), hv, hp, fun hi => (hown hi).2⟩

/-! ## The invariant: what keeps it -/

theorem State.Inv.failed (h : s.Inv) {e : ErrCode} (he : e ≠ .ok) : (s.failed e).Inv :=
  { h with
    busyFlags := by simp
    busyCmd := by simp
    errAgrees := by simp [he] }

theorem State.Inv.completed (h : s.Inv) (n : Nat) : (s.completed n).Inv :=
  { h with
    busyFlags := by simp
    busyCmd := by simp
    errAgrees := by simp }

/-- The bytes a command stores lie inside LMEM, and it leaves POS 0 outside ABSORB. -/
theorem State.Inv.written (h : s.Inv) {c : Sponge} {p : Phase} {v : List Byte}
    (hv : v = [] ∨ s.dstAddr.toNat + v.length ≤ s.memBytes)
    (hp : p ≠ .absorb → c.pos = 0 ∨ c.pos = s.sponge.pos ∧ p = s.phase) (d sd : Vector Word 8) (sv : Bool) :
    (s.written c p d sd sv v).Inv :=
  { h with
    canonical := Memory.wf_writeBytes h.canonical _ v
    inside := Memory.within_writeBytes h.inside hv
    posIdle := fun ha => by
      rcases hp ha with h0 | ⟨hpos, hphase⟩
      · exact h0
      · exact hpos.trans (h.posIdle (hphase ▸ ha)) }

theorem State.Inv.exec (h : s.Inv) {i : Instr} (ht : exec i s = .next t) : t.Inv := by
  rcases exec_next_cases ht with ⟨e, he, rfl⟩ | ⟨c, p, d, sd, sv, v, rfl, hv, hp, -⟩
  · exact h.failed he
  · exact (h.written hv hp d sd sv).completed _

theorem State.Inv.engineStep (h : s.Inv) (ht : engineStep s = .next t) : t.Inv := by
  rcases engineStep_cases s with ⟨-, he⟩ | ⟨w, i, -, -, he⟩ | ⟨w, e, -, -, he⟩ <;> rw [he] at ht
  · exact Host.Outcome.next.inj ht ▸ h
  · exact h.exec ht
  · exact Host.Outcome.next.inj ht ▸ h.failed (by decide)

theorem State.Inv.withSchedule (h : s.Inv) (q : List Turn) : (s.withSchedule q).Inv := { h with }

theorem State.Inv.answered (h : s.Inv) (q : List HostAccess) (r : Response) : (s.answered q r).Inv := { h with }

theorem State.Inv.afterRead (h : s.Inv) (off : Word) : (s.afterRead off).Inv := by
  rw [State.afterRead_eq]
  exact { h with }

/-- A reset of the registers keeps the invariant: it rests on LMEM alone. -/
theorem State.Inv.resetRegs (h : s.Inv) : s.resetRegs.Inv :=
  { h with
    busyFlags := by simp
    busyCmd := by simp [State.reset]
    errAgrees := by simp [State.reset]
    posIdle := fun _ => rfl }

/-- What a soft reset makes unspecified lies inside LMEM (R222). -/
theorem State.Inv.scramble (h : s.Inv) (r : Region) : (s.scramble r).Inv :=
  { h with
    canonical := Memory.wf_writeBytes h.canonical _ _
    inside := Memory.within_writeBytes h.inside (by
      rw [← List.length_eq_zero_iff, State.drawnBytes_length, State.clipLen]
      omega) }

theorem State.Inv.softReset (h : s.Inv) : s.softReset.Inv := by
  unfold State.softReset State.abandon
  split
  · exact h.resetRegs
  · split
    · exact (h.scramble _).resetRegs
    · exact h.resetRegs

theorem State.Inv.powerOnReset (h : s.Inv) : s.powerOnReset.Inv :=
  State.Inv.resetRegs { h with
    canonical := Memory.wf_writeBytes Memory.wf_nil _ _
    inside := Memory.within_writeBytes (Memory.within_nil _) (.inr (by simp)) }

/-- An issue puts its word into CMD and clears the report (R193). -/
theorem State.Inv.issue (h : s.Inv) (w : Word) : (s.issue w).Inv :=
  { h with
    busyFlags := by simp
    busyCmd := by simp
    errAgrees := by simp }

theorem State.Inv.writeStatus (h : s.Inv) (v : Word) : (s.writeStatus v).Inv :=
  { h with
    busyFlags := fun hb => by
      obtain ⟨hdone, herr, hcode⟩ := h.busyFlags hb
      simp [hdone, herr, hcode] }

theorem State.Inv.writeCtrl (h : s.Inv) (v : Word) : (s.writeCtrl v).Inv := by
  unfold State.writeCtrl
  split
  · exact h.softReset
  · exact { h with }

/-- A droppable write keeps the invariant when its effect does: dropped, it only sets WBUSY (R26). -/
theorem State.Inv.droppable (h : s.Inv) (ht : t.Inv) : (s.droppable t).Inv := by
  unfold State.droppable
  split
  · exact { h with }
  · exact ht

/-- A whole word of LMEM replaced. -/
theorem State.Inv.writeWord (h : s.Inv) {a : Nat} (ha : a + 4 ≤ s.memBytes) (v : Word) :
    { s with lmem := s.lmem.writeBytes a (leBytes4 v) }.Inv :=
  { h with
    canonical := Memory.wf_writeBytes h.canonical _ _
    inside := Memory.within_writeBytes h.inside (.inr ha) }

theorem State.Inv.writeTarget (h : s.Inv) (v : Word) (r : Target)
    (hr : ∀ a, r = .lmem a → a + 4 ≤ s.memBytes) : (s.writeTarget v r).Inv := by
  cases r with
  | id | memSize | resultLen | sponge | digest _ | reserved => exact h
  | ctrl => exact h.writeCtrl v
  | status => exact h.writeStatus v
  | cmd => exact h.droppable (h.issue v)
  | srcAddr | srcLen | dstAddr | outLen | kLen | seed _ | state _ => exact h.droppable { h with }
  | lmem a => exact h.droppable (h.writeWord (hr a rfl) v)

/-- An admitted offset names whole words of LMEM only: MEM_BYTES is a multiple of 4 (R7). -/
theorem State.Inv.hostWrite (h : s.Inv) {off : Word} (hoff : off.toNat % 4 = 0) (v : Word) :
    (s.hostWrite off v).Inv := by
  refine h.writeTarget v _ fun a ha => ?_
  have hwin := targetAt_lmem ha
  have hsize := h.size.1
  omega

theorem aligned_of_admitted {width : AccessWidth} {off : Word} (h : admitted width off = true) :
    off.toNat % 4 = 0 := by
  simp only [admitted, Bool.and_eq_true, beq_iff_eq] at h
  exact h.2

theorem State.Inv.access (h : s.Inv) (rest : List HostAccess) (acc : HostAccess) : (s.access rest acc).Inv := by
  cases acc with
  | read width off =>
    simp only [State.access]
    split
    · exact (h.afterRead off).answered _ _
    · exact h.answered _ _
  | write width off v =>
    simp only [State.access]
    split
    next hadm => exact (h.hostWrite (aligned_of_admitted hadm) v).answered _ _
    next => exact h.answered _ _
  | poll off mask val =>
    simp only [State.access]
    split
    · exact (h.afterRead off).answered _ _
    · exact h.answered _ _

theorem State.Inv.hostStep (h : s.Inv) : s.hostStep.Inv := by
  unfold State.hostStep
  split
  · exact h
  · exact h.access _ _

/-- Settles O3: whichever agent the schedule names, its move keeps the invariant. -/
theorem stepKeepsTheInvariant : Obligations.StepKeepsTheInvariant := by
  intro s t h ht
  rcases step_cases s with ⟨q, -, hs⟩ | ⟨q, -, hs⟩ | ⟨q, -, hs⟩ | ⟨-, -, hs⟩ | ⟨-, -, hs⟩ <;> rw [hs] at ht
  · exact Host.Outcome.next.inj ht ▸ (h.withSchedule q).hostStep
  · exact (h.withSchedule q).engineStep ht
  · exact Host.Outcome.next.inj ht ▸ (h.withSchedule q).powerOnReset
  · exact h.engineStep ht
  · exact Host.Outcome.next.inj ht ▸ h.hostStep

/-- Settles O2: the invariant, field by field, in the reset state. -/
theorem resetMeetsTheInvariant : Obligations.ResetMeetsTheInvariant where
  size := by decide
  canonical := Memory.wf_nil
  inside := Memory.within_nil _
  busyFlags := by decide
  busyCmd := by simp [State.reset]
  errAgrees := by decide
  posIdle := fun _ => rfl

end Sys2Proof.Machine
end

section
/-! SUPPORT. A command in flight reads nothing that the host can still change (R48). -/

namespace Sys2Proof.Machine

variable {s u : State}

/-- `s` with the host's side of `u` (CTRL, WBUSY, the host's queue, its last answer, the draws) and DONE = d. -/
def State.underHost (s u : State) (d : Bool) : State :=
  { s with
    irqEn := u.irqEn, opaqueErr := u.opaqueErr, wbusy := u.wbusy, done := d
    hostQueue := u.hostQueue, response := u.response, draws := u.draws }

/-- While BUSY = 1 a write that does not abandon the command changes only the host's side (R26). -/
theorem State.writeTarget_underHost (hb : s.busy = true) (v : Word) (r : Target)
    (hu : (s.writeTarget v r).busy = true) :
    s.writeTarget v r = s.underHost (s.writeTarget v r) (s.writeTarget v r).done := by
  cases r with
  | id | memSize | resultLen | sponge | digest _ | reserved | status => rfl
  | ctrl =>
    simp only [State.writeTarget, State.writeCtrl] at hu ⊢
    split at hu
    · exact absurd hu (by simp [State.softReset])
    · next h => rw [if_neg h]; rfl
  | cmd | srcAddr | srcLen | dstAddr | outLen | kLen | seed _ | state _ | lmem _ =>
    simp only [State.writeTarget, State.droppable_of_busy hb]
    rfl

/-- While BUSY = 1 the host's step, a soft reset apart, changes only the host's side (R48). -/
theorem State.hostStep_underHost (hb : s.busy = true) (hu : s.hostStep.busy = true) :
    ∃ x d, s.hostStep = s.underHost x d := by
  unfold State.hostStep at hu ⊢
  split
  · exact ⟨s, s.done, rfl⟩
  next acc rest hq =>
    simp only [hq] at hu
    obtain ⟨q, r, ⟨n, ha⟩ | ⟨off, v, ha⟩⟩ := s.access_cases rest acc <;> rw [ha] at hu ⊢
    · exact ⟨({ s with draws := n }).answered q r, s.done, rfl⟩
    · refine ⟨(s.hostWrite off v).answered q r, (s.hostWrite off v).done, ?_⟩
      exact congrArg (·.answered q r) (State.writeTarget_underHost hb v (targetAt s.memBytes off.toNat) hu)

/-- Two outcomes agree but for the host's side: whatever state `r` ends in, `r'` ends in it under the host of `u`. -/
def AgreeUnderHost (u : State) (r r' : Result) : Prop :=
  ∀ t, r = .next t → r' = .next (t.underHost u t.done)

namespace AgreeUnderHost

variable {d : Bool} {r r' : Result}

theorem completed (s : State) (n : Nat) : AgreeUnderHost u (s.complete n) ((s.underHost u d).complete n) := by
  rintro t ⟨⟩
  rfl

theorem raised (s : State) (e : ErrCode) : AgreeUnderHost u (s.raise e) ((s.underHost u d).raise e) := by
  rintro t ⟨⟩
  rfl

/-- A check decides alike on both sides. -/
theorem check {e : ErrCode} {p : Prop} [Decidable p] (h : ¬ p → AgreeUnderHost u r r') :
    AgreeUnderHost u (if p then s.raise e else r) (if p then (s.underHost u d).raise e else r') := by
  by_cases hp : p
  · rw [if_pos hp, if_pos hp]; exact raised s e
  · rw [if_neg hp, if_neg hp]; exact h hp

/-- A read of LMEM gives both sides the same bytes. -/
theorem memRead {q : Region} {k k' : List Byte → Result} (h : ∀ b, AgreeUnderHost u (k b) (k' b)) :
    AgreeUnderHost u (s.memRead q k) ((s.underHost u d).memRead q k') := by
  by_cases hv : s.valid q
  · rw [State.memRead_of_valid hv, State.memRead_of_valid (s := s.underHost u d) hv]; exact h _
  · rw [State.memRead, if_neg hv]
    rintro t ⟨⟩

/-- The last two moves of a command that stores v. -/
theorem stored (s : State) (a : Nat) (v : List Byte) (n : Nat) :
    AgreeUnderHost u (s.memWrite a v fun t => t.complete n)
      ((s.underHost u d).memWrite a v fun t => t.complete n) := by
  by_cases hv : a + v.length ≤ s.memBytes
  · rw [State.memWrite_of_valid hv, State.memWrite_of_valid (s := s.underHost u d) hv]
    exact completed { s with lmem := s.lmem.writeBytes a v } n
  · rw [State.memWrite, if_neg hv]
    rintro t ⟨⟩

theorem exec (i : Instr) (s u : State) (d : Bool) : AgreeUnderHost u (exec i s) (exec i (s.underHost u d)) := by
  cases i with
  | keccakF => exact completed { s with sponge := { s.sponge with a := keccakF s.sponge.a } } 0
  | sha3Init => exact completed { s with sponge := Sponge.init, phase := .absorb } 0
  | sha3Absorb => exact check fun _ => check fun _ => memRead fun m => completed { s with sponge := s.sponge.absorb m } 0
  | sha3Final =>
    exact check fun _ => check fun _ =>
      stored (({ s with sponge := s.sponge.finalize, phase := .finalDone }).setDigest s.sponge.finalize.a.digest) _ _ _
  | sha3Hash => exact check fun _ => check fun _ => check fun _ => memRead fun m => stored (s.setDigest (sha3 m)) _ _ _
  | mgf1 => exact check fun _ => check fun _ => check fun _ => memRead fun z => stored s _ _ _
  | oaepEnc =>
    exact check fun _ => check fun _ => check fun _ => check fun _ => check fun _ => memRead fun m =>
      stored s.consumeSeed _ _ _
  | oaepDec =>
    refine check fun _ => check fun _ => check fun _ => check fun _ => memRead fun em => ?_
    simp only [show (s.underHost u d).kLen = s.kLen from rfl]
    cases oaepDecode em s.kLen.toNat with
    | error e => exact check fun _ => raised s e
    | ok m => exact stored s _ _ _
  | b64Enc => exact check fun _ => check fun _ => check fun _ => memRead fun b => stored s _ _ _
  | b64Dec =>
    refine check fun _ => check fun _ => memRead fun text => check fun _ => check fun _ => ?_
    cases b64Scan text with
    | some e => exact raised s e
    | none => exact stored s _ _ _

/-- The engine completes a command alike, whatever stands on the host's side. -/
theorem engineStep (hb : s.busy = true) (u : State) (d : Bool) :
    AgreeUnderHost u (engineStep s) (engineStep (s.underHost u d)) := by
  obtain ⟨w, hw⟩ := State.busy_eq_true.1 hb
  have hw' : (s.underHost u d).inFlight = some w := hw
  unfold Machine.engineStep
  simp only [hw, hw']
  cases decode w with
  | ok i => exact exec i s u d
  | error e => exact raised s .badCmd

end AgreeUnderHost

/-- Settles O33: a busy host changes its own side only, and the command's completion does not depend on that side. -/
theorem hostCannotDisturbACommand : Obligations.HostCannotDisturbACommand := by
  rintro s u t hb rfl hu ht
  obtain ⟨x, d, hx⟩ := State.hostStep_underHost hb hu
  have hagree := AgreeUnderHost.engineStep hb x d t ht
  rw [hx]
  exact ⟨⟨rfl, rfl, rfl, rfl, rfl, rfl, rfl, rfl, rfl, rfl, rfl⟩, t.underHost x t.done, hagree,
    rfl, rfl, rfl, rfl, rfl, rfl, rfl, rfl, rfl, rfl⟩

end Sys2Proof.Machine
end

section
/-! SUPPORT. What the commands keep of the arguments and the control state, and what they do to PHASE and the seed. -/

namespace Sys2Proof.Machine

variable {s t : State}

/-- Settles O27: neither end of a command writes an argument register or the control state. -/
theorem commandsKeepArgumentsAndControl : Obligations.CommandsKeepArgumentsAndControl := by
  intro i s t h
  rcases exec_next_cases h with ⟨e, -, rfl⟩ | ⟨c, p, d, sd, sv, v, rfl, -⟩
  · simp
  · simp [State.written]

/-- A command that ends in t either failed, which changes only its report, or t is as `Q` says. -/
def FailsOr (s : State) (Q : State → Prop) (r : Result) : Prop :=
  ∀ t, r = .next t → (∃ e, t = s.failed e) ∨ Q t

namespace FailsOr

variable {Q : State → Prop} {r : Result}

theorem check {e : ErrCode} {p : Prop} [Decidable p] (h : ¬ p → FailsOr s Q r) :
    FailsOr s Q (if p then s.raise e else r) := by
  by_cases hp : p
  · rw [if_pos hp]; rintro t ⟨⟩; exact .inl ⟨e, rfl⟩
  · rw [if_neg hp]; exact h hp

theorem completed {u : State} {n : Nat} (h : Q (u.completed n)) : FailsOr s Q (u.complete n) := by
  rintro t ⟨⟩
  exact .inr h

theorem memRead {q : Region} {k : List Byte → Result} (h : ∀ b, FailsOr s Q (k b)) :
    FailsOr s Q (s.memRead q k) := by
  unfold State.memRead
  split
  · exact h _
  · rintro t ⟨⟩

theorem stored {u : State} {a n : Nat} {v : List Byte}
    (h : Q ({ u with lmem := u.lmem.writeBytes a v }.completed n)) :
    FailsOr s Q (u.memWrite a v fun t => t.complete n) := by
  unfold State.memWrite
  split
  · exact completed h
  · rintro t ⟨⟩

end FailsOr

/-! ## PHASE -/

/-- SHA3_ABSORB and SHA3_FINAL fail with SEQ outside the ABSORB phase (R46). -/
theorem exec_outside_absorb {i : Instr} (hi : i = .sha3Absorb ∨ i = .sha3Final) (hp : s.phase ≠ .absorb) :
    exec i s = .next (s.failed .seq) := by
  rcases hi with rfl | rfl <;> exact if_pos hp

theorem sha3Absorb_keeps_phase (h : exec .sha3Absorb s = .next t) : t.phase = s.phase := by
  have hends : FailsOr s (fun t => t.phase = s.phase) (exec .sha3Absorb s) :=
    .check fun _ => .check fun _ => .memRead fun _ => .completed rfl
  rcases hends t h with ⟨e, rfl⟩ | hq
  · rfl
  · exact hq

theorem sha3Final_phase (h : exec .sha3Final s = .next t) (herr : t.err = false) : t.phase = .finalDone := by
  have hends : FailsOr s (fun t => t.phase = .finalDone) (exec .sha3Final s) :=
    .check fun _ => .check fun _ => .stored rfl
  rcases hends t h with ⟨e, rfl⟩ | hq
  · simp at herr
  · exact hq

/-- A command that is none of the three of the stream keeps PHASE. -/
theorem exec_keeps_phase {i : Instr} (h : exec i s = .next t) (hinit : i ≠ .sha3Init) (habsorb : i ≠ .sha3Absorb)
    (hfinal : i ≠ .sha3Final) : t.phase = s.phase := by
  rcases exec_next_cases h with ⟨e, -, rfl⟩ | ⟨c, p, d, sd, sv, v, rfl, -, -, hown⟩
  · rfl
  · cases i with
    | sha3Init | sha3Absorb | sha3Final => contradiction
    | keccakF => exact (congrArg State.phase (Host.Outcome.next.inj h)).symm
    | sha3Hash | mgf1 | oaepEnc | oaepDec | b64Enc | b64Dec => exact hown (by simp)

theorem exec_failed_keeps_phase {i : Instr} (h : exec i s = .next t) (herr : t.err = true) : t.phase = s.phase := by
  rcases exec_next_cases h with ⟨e, -, rfl⟩ | ⟨c, p, d, sd, sv, v, rfl, -⟩
  · rfl
  · simp at herr

/-- Settles O29: row by row of the table of R46. -/
theorem phaseFollowsItsTable : Obligations.PhaseFollowsItsTable := by
  refine ⟨⟨rfl, rfl, rfl⟩, rfl, fun i s t h => ⟨?init, ?absorb, ?final, ?outside, ?others, ?failed⟩⟩
  case init =>
    rintro rfl
    exact (congrArg State.phase (Host.Outcome.next.inj h)).symm
  case absorb =>
    rintro rfl hp
    exact (sha3Absorb_keeps_phase h).trans hp
  case final =>
    rintro rfl -
    exact sha3Final_phase h
  case outside =>
    intro hi hp
    obtain rfl := Host.Outcome.next.inj ((exec_outside_absorb hi hp).symm.trans h)
    exact ⟨rfl, rfl⟩
  case others => exact exec_keeps_phase h
  case failed => exact exec_failed_keeps_phase h

/-! ## The seed -/

/-- OAEP_ENC consumes the seed exactly when it succeeds (R41). -/
theorem oaepEnc_seed (h : exec .oaepEnc s = .next t) :
    (t.err = false ∧ t.seedValid = false ∧ t.seed = .replicate 8 0#32) ∨
    (t.err = true ∧ t.seedValid = s.seedValid ∧ t.seed = s.seed) := by
  have hends : FailsOr s (fun t => t.err = false ∧ t.seedValid = false ∧ t.seed = .replicate 8 0#32)
      (exec .oaepEnc s) :=
    .check fun _ => .check fun _ => .check fun _ => .check fun _ => .check fun _ => .memRead fun _ =>
      .stored ⟨rfl, rfl, rfl⟩
  rcases hends t h with ⟨e, rfl⟩ | hq
  · exact .inr ⟨rfl, rfl, rfl⟩
  · exact .inl hq

end Sys2Proof.Machine
end

section
/-! SUPPORT. The register map row by row, and what the host's reads and writes of each target do. -/

namespace Sys2Proof.Machine

variable {s : State} {off : Word}

/-! ## The register map (R25) -/

theorem targetAt_digest (n : Nat) (j : Fin 8) : targetAt n (0x040 + 4 * j.val) = .digest j := by
  rw [targetAt, if_neg (by omega), dif_pos (by omega)]
  congr
  omega

theorem targetAt_seed (n : Nat) (j : Fin 8) : targetAt n (0x060 + 4 * j.val) = .seed j := by
  rw [targetAt, if_neg (by omega), dif_neg (by omega), dif_pos (by omega)]
  congr
  omega

theorem targetAt_state (n : Nat) (w : Fin 50) : targetAt n (0x100 + 4 * w.val) = .state w := by
  rw [targetAt, if_neg (by omega), dif_neg (by omega), dif_neg (by omega), dif_pos (by omega)]
  congr
  omega

theorem namedRegisters_ne_reserved {k : Nat} (hk : k < 12) : namedRegisters.getD k .reserved ≠ .reserved := by
  interval_cases k <;> decide

theorem namedRegisters_offset {k : Nat} (hk : k < 12) : (namedRegisters.getD k .reserved).offset = 4 * k := by
  interval_cases k <;> rfl

theorem targetAt_eq_reserved_iff (n off : Nat) : targetAt n off = .reserved ↔
    (0x030 ≤ off ∧ off < 0x040) ∨ (0x080 ≤ off ∧ off < 0x100) ∨ (0x1C8 ≤ off ∧ off < 0x1000) ∨ 0x1000 + n ≤ off := by
  unfold targetAt
  split_ifs with hnamed
  · have := namedRegisters_ne_reserved (k := off / 4) (by omega)
    simp only [this, false_iff]
    omega
  all_goals simp; omega

theorem targetAt_offset {n : Nat} {r : Target} (hr : r ≠ .reserved) (hmem : ∀ a, r = .lmem a → a < n) :
    targetAt n r.offset = r := by
  cases r with
  | reserved => contradiction
  | digest j => exact targetAt_digest n j
  | seed j => exact targetAt_seed n j
  | state w => exact targetAt_state n w
  | lmem a => exact targetAt_window (hmem a rfl)
  | id | memSize | ctrl | status | cmd | srcAddr | srcLen | dstAddr | outLen | kLen | resultLen | sponge => rfl

/-- An aligned offset that names something is that thing's offset. -/
theorem offset_targetAt {n off : Nat} (hoff : off % 4 = 0) (hr : targetAt n off ≠ .reserved) :
    (targetAt n off).offset = off := by
  rw [Ne, targetAt_eq_reserved_iff] at hr
  unfold targetAt
  split_ifs with hnamed
  · rw [namedRegisters_offset (by omega)]
    omega
  all_goals simp only [Target.offset]; omega

theorem Target.offset_lt {n : Nat} (hn : n ≤ 2 ^ 24) {r : Target} (hmem : ∀ a, r = .lmem a → a < n) :
    r.offset < 2 ^ 32 := by
  cases r with
  | digest j | seed j | state j => simp only [Target.offset]; omega
  | lmem a => have := hmem a rfl; simp only [Target.offset]; omega
  | _ => simp [Target.offset]

theorem Target.offset_mod {r : Target} (hmem : ∀ a, r = .lmem a → a % 4 = 0) : r.offset % 4 = 0 := by
  cases r with
  | digest j | seed j | state j => simp only [Target.offset]; omega
  | lmem a => have := hmem a rfl; simp only [Target.offset]; omega
  | _ => rfl

/-- Settles O36: the map read row by row, and inverted by `Target.offset`. -/
theorem registerMapRoundTrip : Obligations.RegisterMapRoundTrip := by
  intro n hn
  refine ⟨⟨rfl, rfl, rfl, rfl, rfl, rfl, rfl, rfl, rfl, rfl, rfl, rfl, fun j => ⟨targetAt_digest n j, targetAt_seed n j⟩,
    targetAt_state n, fun a _ ha => targetAt_window (by omega)⟩, fun r hr hmem => ?_, fun off => offset_targetAt,
    targetAt_eq_reserved_iff n, fun s v => ⟨rfl, rfl⟩⟩
  have hin : ∀ a, r = .lmem a → a < n := fun a ha => by have := hmem a ha; omega
  exact ⟨targetAt_offset hr hin, Target.offset_mod fun a ha => (hmem a ha).1, Target.offset_lt hn.2.2 hin⟩

/-! ## Reads and writes while busy -/

/-- While BUSY = 1 a location the command may write reads a fresh unspecified word, which only counts the draw (R49). -/
theorem State.hostRead_unspecified (hb : s.busy = true)
    (hr : (targetAt s.memBytes off.toNat).unspecifiedWhileBusy = true) :
    s.hostRead off = Config.freeWord s.draws ∧ s.afterRead off = { s with draws := s.draws + 1 } := by
  simp [State.hostRead, State.afterRead, hb, hr]

/-- Any other location reads its value, with no effect (R49, R69). -/
theorem State.hostRead_specified (hr : (targetAt s.memBytes off.toNat).unspecifiedWhileBusy = false) :
    s.hostRead off = s.regValue (targetAt s.memBytes off.toNat) ∧ s.afterRead off = s := by
  simp [State.hostRead, State.afterRead, hr]

/-- Settles O32: a read while busy is of an unspecified target or of a specified one. -/
theorem busyReads : Obligations.BusyReads := by
  rintro s off r hb rfl
  refine ⟨fun h => ?unspecified, ?_⟩
  case unspecified =>
    apply State.hostRead_unspecified hb
    rcases h with h | h | ⟨_, h⟩ | ⟨_, h⟩ | ⟨_, h⟩ <;> rw [h] <;> rfl
  have hval : ∀ r, targetAt s.memBytes off.toNat = r → r.unspecifiedWhileBusy = false →
      s.hostRead off = s.regValue r := by
    rintro r rfl hr
    exact (State.hostRead_specified hr).1
  refine ⟨fun h => hval _ h rfl, fun h => hval _ h rfl, fun h => hval _ h rfl, fun h => hval _ h rfl,
    fun h => hval _ h rfl, fun h => hval _ h rfl, fun h => hval _ h rfl, fun h => hval _ h rfl,
    fun h => hval _ h rfl, fun h => hval _ h rfl, ?zero, fun h => ?noEffect⟩
  case zero =>
    rintro (⟨j, h⟩ | h)
    · exact hval _ h rfl
    · exact hval _ h rfl
  case noEffect =>
    apply And.right
    apply State.hostRead_specified
    rcases h with h | h | h | h | h | h | h | h | h | h | ⟨_, h⟩ | h <;> rw [h] <;> rfl

/-- A write to CTRL with bit 31 clear stores the two control bits (R29). -/
theorem State.writeCtrl_of_clear {v : Word} (hv : v.getLsbD 31 = false) :
    s.writeCtrl v = { s with irqEn := v.getLsbD 0, opaqueErr := v.getLsbD 1 } := if_neg (ne_true_of_eq_false hv)

/-- A write to CTRL with bit 31 set resets the block (R29). -/
theorem State.writeCtrl_of_set {v : Word} (hv : v.getLsbD 31 = true) : s.writeCtrl v = s.softReset := if_pos hv

/-- Settles O31: CTRL and STATUS act, a droppable target is dropped, any other is ignored. -/
theorem busyWritesAreDropped : Obligations.BusyWritesAreDropped := by
  intro s v r hb
  refine ⟨?ctrl, ?reset, ?status, ?dropped, ?ignored⟩
  case ctrl =>
    rintro rfl hv
    exact State.writeCtrl_of_clear hv
  case reset =>
    rintro rfl hv
    exact State.writeCtrl_of_set hv
  case status =>
    rintro rfl
    rfl
  case dropped =>
    rintro (rfl | rfl | rfl | rfl | rfl | rfl | ⟨j, rfl⟩ | ⟨w, rfl⟩ | ⟨a, rfl⟩) <;> exact State.droppable_of_busy hb _
  case ignored =>
    rintro (rfl | rfl | rfl | rfl | ⟨j, rfl⟩ | rfl) <;> rfl

/-! ## An admitted access -/

theorem admitted_of_aligned (h : off.toNat % 4 = 0) : admitted .w32 off = true := by simp [admitted, h]

/-- An idle read at the offset of r returns the value of r. -/
theorem State.hostRead_of_target (hb : s.busy = false) {r : Target} (h : targetAt s.memBytes off.toNat = r) :
    s.hostRead off = s.regValue r := by
  rw [State.hostRead_of_idle hb, h]

theorem State.hostWrite_of_target {r : Target} (h : targetAt s.memBytes off.toNat = r) (v : Word) :
    s.hostWrite off v = s.writeTarget v r := by
  rw [State.hostWrite, h]

theorem toNat_offset {a : Nat} (h : a < 0x1000) : (BitVec.ofNat 32 a).toNat = a := by
  rw [BitVec.toNat_ofNat, Nat.mod_eq_of_lt (by omega)]

/-- Settles O35: the bus answers an aligned access, and an idle access acts on the target its offset names. -/
theorem admittedAccessIsAnswered : Obligations.AdmittedAccessIsAnswered := by
  refine ⟨fun s rest off v mask val hoff => ?answered, fun s hb => ?reads, fun s v hb => ?writes,
    fun s off v r hr => ⟨?readOnly, ?reserved⟩⟩
  case answered =>
    have hadm := admitted_of_aligned hoff
    refine ⟨?_, ?_, fun hdone => ?_, fun hdone => ?_⟩
    · rw [State.access, if_pos hadm]; rfl
    · rw [State.access, if_pos hadm]; rfl
    · rw [State.access, if_pos hadm, if_pos hdone]; rfl
    · rw [State.access, if_pos hadm, if_neg hdone]; rfl
  case reads =>
    have hread : ∀ (off : Word) (r : Target), targetAt s.memBytes off.toNat = r → s.hostRead off = s.regValue r :=
      fun off r => State.hostRead_of_target hb
    refine ⟨hread _ _ rfl, hread _ _ rfl, hread _ _ rfl, hread _ _ rfl, hread _ _ rfl, hread _ _ rfl, hread _ _ rfl,
      hread _ _ rfl, hread _ _ rfl, hread _ _ rfl, hread _ _ rfl, hread _ _ rfl, fun j => ⟨?_, ?_⟩, fun w => ?_,
      fun off => State.afterRead_of_idle hb off⟩
    · exact hread _ (.digest j) (by rw [toNat_offset (by omega), targetAt_digest])
    · exact hread _ (.seed j) (by rw [toNat_offset (by omega), targetAt_seed])
    · exact hread _ (.state w) (by rw [toNat_offset (by omega), targetAt_state])
  case writes =>
    exact ⟨State.droppable_of_idle hb _, State.droppable_of_idle hb _, State.droppable_of_idle hb _,
      State.droppable_of_idle hb _, State.droppable_of_idle hb _⟩
  case readOnly =>
    rw [State.hostWrite_of_target hr]
    rintro (rfl | rfl | rfl | rfl | ⟨j, rfl⟩ | rfl) <;> rfl
  case reserved =>
    rintro rfl
    rw [(State.hostRead_specified (by rw [hr]; rfl)).1, hr]
    rfl

end Sys2Proof.Machine
end

section
/-! SUPPORT. The control words bit by bit, the seed byte by byte, and the STATE window half-lane by half-lane. -/

namespace Sys2Proof.Machine

/-! ## CTRL, STATUS and SPONGE (R29, R30, R38) -/

theorem State.ctrlWord_getLsbD (s : State) (k : Nat) :
    s.ctrlWord.getLsbD k = ((k == 0 && s.irqEn) || (k == 1 && s.opaqueErr)) := by
  rw [State.ctrlWord, BitVec.getLsbD_append, BitVec.getLsbD_append]
  match k with
  | 0 | 1 | k + 2 => simp

theorem State.statusWord_flags (s : State) :
    s.statusWord.getLsbD 0 = s.busy ∧ s.statusWord.getLsbD 1 = s.done ∧ s.statusWord.getLsbD 2 = s.err ∧
    s.statusWord.getLsbD 3 = s.wbusy ∧ s.statusWord.getLsbD 4 = s.seedValid := by
  unfold State.statusWord
  refine ⟨?_, ?_, ?_, ?_, ?_⟩ <;> repeat rw [BitVec.getLsbD_append]
  all_goals simp

/-- Above the five flags stand three zero bits, ERRCODE and sixteen zero bits. -/
theorem State.statusWord_fields (s : State) :
    s.statusWord.extractLsb' 5 3 = 0#3 ∧ s.statusWord.extractLsb' 8 8 = s.errCode.code ∧
    s.statusWord.extractLsb' 16 16 = 0#16 := by
  unfold State.statusWord
  refine ⟨?gap, ?code, ?clear⟩ <;> iterate 5 rw [BitVec.extractLsb'_append_eq_of_le (by decide)]
  case gap => exact BitVec.extractLsb'_append_eq_right
  case code =>
    rw [BitVec.extractLsb'_append_eq_of_le (by decide)]
    exact BitVec.extractLsb'_append_eq_right
  case clear =>
    iterate 2 rw [BitVec.extractLsb'_append_eq_of_le (by decide)]
    exact BitVec.extractLsb'_eq_self

theorem State.spongeWord_fields (s : State) :
    (s.spongeWord.extractLsb' 0 8).toNat = s.sponge.pos.val ∧ s.spongeWord.extractLsb' 8 2 = s.phase.code ∧
    s.spongeWord.extractLsb' 10 22 = 0#22 := by
  unfold State.spongeWord
  refine ⟨?pos, ?phase, ?clear⟩
  case pos =>
    rw [BitVec.extractLsb'_append_eq_right, BitVec.toNat_ofNat]
    omega
  case phase =>
    rw [BitVec.extractLsb'_append_eq_of_le (by decide)]
    exact BitVec.extractLsb'_append_eq_right
  case clear =>
    iterate 2 rw [BitVec.extractLsb'_append_eq_of_le (by decide)]
    exact BitVec.extractLsb'_eq_self

theorem State.softReset_ctrlWord (s : State) : s.softReset.ctrlWord = 0#32 := by
  simp [State.ctrlWord, State.softReset, State.reset]

/-- Settles O37: the three words field by field, and the two writes. -/
theorem controlWordsShowTheirFields : Obligations.ControlWordsShowTheirFields := by
  intro s v
  obtain ⟨hbusy, hdone, herr, hwbusy, hseed⟩ := s.statusWord_flags
  refine ⟨s.ctrlWord_getLsbD, ⟨hbusy, hdone, herr, hwbusy, hseed, s.statusWord_fields⟩, s.spongeWord_fields,
    State.writeCtrl_of_clear, fun hv => ?reset, rfl⟩
  case reset =>
    rw [State.hostWrite_of_target (r := .ctrl) rfl, State.writeTarget, State.writeCtrl_of_set hv]
    exact s.softReset_ctrlWord

/-! ## The seed (R40, R41) -/

/-- The little-endian bytes of a list of words, four to a word. -/
theorem getElem?_flatMap_leBytes4 (l : List Word) (j : Nat) (b : Fin 4) :
    (l.flatMap leBytes4)[4 * j + b.val]? = l[j]?.map fun w => w.extractLsb' (8 * b.val) 8 := by
  induction l generalizing j with
  | nil => simp
  | cons w l ih =>
    rw [List.flatMap_cons]
    cases j with
    | zero =>
      rw [List.getElem?_append_left (by simp)]
      fin_cases b <;> rfl
    | succ j =>
      rw [List.getElem?_append_right (by simp; omega), List.getElem?_cons_succ, ← ih j, leBytes4_length]
      congr 1
      omega

theorem State.seedBytes_getElem? (s : State) (j : Fin 8) (b : Fin 4) :
    s.seedBytes[4 * j.val + b.val]? = some (s.seed[j].extractLsb' (8 * b.val) 8) := by
  rw [State.seedBytes, bytesOfWords, getElem?_flatMap_leBytes4]
  simp

theorem State.writeSeed_eq (s : State) (j : Fin 8) (v : Word) :
    s.writeSeed j v = { s with seed := s.seed.set j v, seedValid := if j = 7 then true else s.seedValid } := by
  unfold State.writeSeed
  by_cases hj : j = 7
  · simp [hj]
  · have hval : j.val ≠ 7 := fun h => hj (Fin.ext h)
    simp [hj, hval]

/-- Settles O38: the seed's window, its bytes, and its consumption by OAEP_ENC. -/
theorem seedIsInjectedAndConsumedOnce : Obligations.SeedIsInjectedAndConsumedOnce := by
  refine ⟨targetAt_seed, rfl, fun s j v hb => ?write, fun s j v hb => State.droppable_of_busy hb _,
    fun s j => rfl, State.seedBytes_getElem?, fun s t h => ?consume⟩
  case write => exact (State.droppable_of_idle hb _).trans (s.writeSeed_eq j v)
  case consume =>
    rcases oaepEnc_seed h with ⟨herr, hcleared⟩ | ⟨herr, hkept⟩
    · exact ⟨fun _ => hcleared, fun h => absurd h (ne_true_of_eq_false herr)⟩
    · exact ⟨fun h => absurd herr (ne_true_of_eq_false h), fun _ => hkept⟩

/-! ## The STATE window (R42) -/

/-- A write replaces its own half-lane and no other: neither the other half of its lane nor another lane. -/
theorem Lanes.halfLane_setHalfLane (A : Lanes) (w w' : Fin 50) (v : Word) :
    (A.setHalfLane w v).halfLane w' = if w' = w then v else A.halfLane w' := by
  unfold Lanes.setHalfLane Lanes.halfLane
  rw [Vector.getElem_set]
  by_cases hlane : w.val / 2 = w'.val / 2
  · rw [if_pos hlane]
    simp only [hlane]
    rcases Nat.mod_two_eq_zero_or_one w.val with hw | hw <;>
      rcases Nat.mod_two_eq_zero_or_one w'.val with hw' | hw'
    · rw [if_pos hw, if_pos (by omega), hw']
      exact BitVec.extractLsb'_append_eq_right
    · rw [if_pos hw, if_neg (by omega), hw']
      exact BitVec.extractLsb'_append_eq_left
    · rw [if_neg (by omega), if_neg (by omega), hw']
      exact BitVec.extractLsb'_append_eq_right
    · rw [if_neg (by omega), if_pos (by omega), hw']
      exact BitVec.extractLsb'_append_eq_left
  · rw [if_neg hlane, if_neg (by rintro rfl; exact hlane rfl)]

theorem Lanes.halfLane_byte (A : Lanes) (w : Fin 50) (b : Fin 4) :
    (A.halfLane w).extractLsb' (8 * b.val) 8 = A.getByte ⟨4 * w.val + b.val, by omega⟩ := by
  have hlane : (4 * w.val + b.val) / 8 = w.val / 2 := by omega
  have hbit : 8 * ((4 * w.val + b.val) % 8) = 32 * (w.val % 2) + 8 * b.val := by omega
  unfold Lanes.halfLane Lanes.getByte
  simp only [hlane, hbit]
  ext i hi
  have hin : 8 * b.val + i < 32 := by omega
  simp [hin, Nat.add_assoc]

/-- Settles O39: a half-lane read after a half-lane write, and its bytes in the byte view. -/
theorem stateWindowIsTheKeccakState : Obligations.StateWindowIsTheKeccakState := by
  refine ⟨fun n w => ⟨targetAt_state n w, ?reset⟩, fun s w => rfl, fun s w w' v hb => ?write, fun s w v => ?frame,
    Lanes.halfLane_byte, fun s off v w hb hr => ⟨?busyRead, ?busyWrite⟩⟩
  case reset => simp [State.regValue, State.reset, Lanes.halfLane]
  case write =>
    rw [State.writeTarget, State.droppable_of_idle hb]
    exact Lanes.halfLane_setHalfLane _ w w' v
  case frame =>
    rw [State.writeTarget, State.droppable]
    split <;> exact ⟨rfl, rfl⟩
  case busyRead => exact (State.hostRead_unspecified hb (by rw [hr]; rfl)).1
  case busyWrite =>
    rw [State.hostWrite_of_target hr]
    exact State.droppable_of_busy hb _

/-- Settles O1: every value is written out in `State.reset`. -/
theorem resetHoldsTheStatedValues : Obligations.ResetHoldsTheStatedValues := by
  unfold Obligations.ResetHoldsTheStatedValues
  decide

end Sys2Proof.Machine
end

section
/-! SUPPORT. LMEM byte by byte: what a command's accesses and the host's window read and store, and when regions
overlap. -/

namespace Sys2Proof.Machine

/-! ## A command's accesses (R64) and regions (R66) -/

theorem Memory.readBytes_getElem? (m : Memory) (addr : Nat) {n i : Nat} (hi : i < n) :
    (m.readBytes addr n)[i]? = some (m.read (addr + i)) := by
  have hin : i < (m.readBytes addr n).length := by rwa [Memory.readBytes_length]
  rw [List.getElem?_eq_getElem hin, ← List.getD_eq_getElem _ 0#8 hin, Memory.readBytes_getD m addr n i _ hi]

/-- Settles O43: a checked access is the string read or written, whose bytes the laws of LMEM give. -/
theorem memReadAndMemWriteAreByteExact : Obligations.MemReadAndMemWriteAreByteExact := by
  refine ⟨fun s addr n k hv => ?read, fun s addr v k hv hwf => ?write, fun m addr => ⟨rfl, rfl⟩⟩
  case read =>
    exact ⟨s.lmem.readBytes addr n, State.memRead_of_valid hv k, Memory.readBytes_length s.lmem addr n,
      fun i => Memory.readBytes_getElem? s.lmem addr⟩
  case write =>
    exact ⟨s.lmem.writeBytes addr v, State.memWrite_of_valid hv k, Memory.wf_writeBytes hwf addr v,
      Memory.read_writeBytes hwf addr v⟩

/-- Settles O44: two regions that overlap share the larger of their first addresses. -/
theorem regionsOverlapIffTheyShareAByte : Obligations.RegionsOverlapIffTheyShareAByte := by
  refine fun r q => ⟨?shared, ?overlap⟩
  case shared =>
    rintro ⟨hr, hq, hrq, hqr⟩
    exact ⟨max r.addr q.addr, ⟨by omega, by omega⟩, ⟨by omega, by omega⟩⟩
  case overlap =>
    rintro ⟨a, ⟨hra, har⟩, ⟨hqa, haq⟩⟩
    exact ⟨by omega, by omega, by omega, by omega⟩

/-! ## The window of the host (R43, R63) -/

theorem leBytes4_getD (v : Word) (b : Fin 4) : (leBytes4 v).getD b.val 0#8 = v.extractLsb' (8 * b.val) 8 := by
  fin_cases b <;> rfl

/-- Byte b of the word at a is the byte at a + b. -/
theorem Memory.wordAt_byte (m : Memory) (a : Nat) (b : Fin 4) :
    (m.wordAt a).extractLsb' (8 * b.val) 8 = m.read (a + b.val) := by
  rw [← leBytes4_getD, Memory.wordAt, leBytes4_fromLe4]
  fin_cases b <;> rfl

/-- Byte b of a stored word. -/
theorem Memory.read_writeWord {m : Memory} (h : m.wf) (a : Nat) (v : Word) (b : Fin 4) :
    (m.writeBytes a (leBytes4 v)).read (a + b.val) = v.extractLsb' (8 * b.val) 8 := by
  rw [Memory.read_writeBytes h, if_pos (by simp), Nat.add_sub_cancel_left, leBytes4_getD]

/-- The word read back is the word stored. -/
theorem Memory.wordAt_writeWord {m : Memory} (h : m.wf) (a : Nat) (v : Word) :
    (m.writeBytes a (leBytes4 v)).wordAt a = v := by
  have hbyte := Memory.read_writeWord h a v
  calc (m.writeBytes a (leBytes4 v)).wordAt a
      = fromLe4 (v.extractLsb' 0 8) (v.extractLsb' 8 8) (v.extractLsb' 16 8) (v.extractLsb' 24 8) := by
        rw [Memory.wordAt]
        exact congr (congr (congr (congrArg fromLe4 (hbyte 0)) (hbyte 1)) (hbyte 2)) (hbyte 3)
    _ = v := fromLe4_leBytes4 v

/-- An idle write to a word of the window stores it, and changes LMEM alone. -/
theorem State.hostWrite_window {s : State} {off : Word} {a : Nat} (hb : s.busy = false)
    (hr : targetAt s.memBytes off.toNat = .lmem a) (v : Word) :
    s.hostWrite off v = { s with lmem := s.lmem.writeBytes a (leBytes4 v) } := by
  rw [State.hostWrite_of_target hr]
  exact State.droppable_of_idle hb _

/-- The bus refuses every width but 32 bits (R61). -/
theorem admitted_eq_false {width : AccessWidth} (h : width ≠ .w32) (off : Word) : admitted width off = false := by
  simp [admitted, h]

/-- Settles O40: the window's word byte by byte, before and after a write, and the widths that the bus refuses. -/
theorem lmemWindowIsLittleEndian : Obligations.LmemWindowIsLittleEndian := by
  refine ⟨fun s off a hb hoff _ ha => ?window, fun s rest width off v hw => ?narrow⟩
  case window =>
    have hr : targetAt s.memBytes off.toNat = .lmem a := by rw [hoff, targetAt_window (by omega)]
    refine ⟨fun b => ?_, fun v hwf => ?_⟩
    · rw [State.hostRead_of_target hb hr]
      exact s.lmem.wordAt_byte a b
    · rw [State.hostWrite_window hb hr]
      refine ⟨Memory.read_writeWord hwf a v, fun x hx => Memory.read_writeBytes_of_not (v := leBytes4 v) hwf hx, ?_⟩
      rw [State.hostRead_of_target (s := { s with lmem := s.lmem.writeBytes a (leBytes4 v) }) hb hr]
      exact Memory.wordAt_writeWord hwf a v
  case narrow =>
    rw [State.access, if_neg (ne_true_of_eq_false (admitted_eq_false hw off))]
    exact State.answered_lmem s rest .busError

end Sys2Proof.Machine
end

section
/-! SUPPORT. The command word: its two fields, what each of them decides, and what becomes of an illegal word. -/

namespace Sys2Proof.Machine

/-! ## The opcode map (R82, R83) -/

/-- The opcode map and the encoder's table are inverse to each other. -/
theorem opcodeMap_eq_some_iff {op : Byte} {i : Instr} : opcodeMap op = some i ↔ op = opcodeOf i := by
  constructor
  · intro h
    unfold opcodeMap at h
    split at h <;> cases h <;> exact BitVec.eq_of_toNat_eq ‹_›
  · rintro rfl
    cases i <;> rfl

/-- The OP values that select no command. -/
theorem opcodeMap_eq_none_iff {op : Byte} : opcodeMap op = none ↔
    op.toNat = 0x00 ∨ (0x06 ≤ op.toNat ∧ op.toNat ≤ 0x0F) ∨ (0x11 ≤ op.toNat ∧ op.toNat ≤ 0x1F) ∨
    (0x22 ≤ op.toNat ∧ op.toNat ≤ 0x2F) ∨ (0x32 ≤ op.toNat ∧ op.toNat ≤ 0xFF) := by
  have hlt := op.isLt
  unfold opcodeMap
  split
  case h_11 =>
    simp only [imp_false, true_iff] at *
    omega
  all_goals
    simp only [reduceCtorEq, false_iff]
    omega

/-! ## The fields of a word (R80) -/

/-- A word is its RSV field above its OP field. -/
theorem rsvField_append_opField (w : Word) : rsvField w ++ opField w = w := BitVec.extractLsb'_append_extractLsb'

theorem rsvField_encode (i : Instr) : rsvField (encode i) = 0#24 := BitVec.extractLsb'_append_eq_left

theorem opField_encode (i : Instr) : opField (encode i) = opcodeOf i := BitVec.extractLsb'_append_eq_right

theorem eq_encode_iff {w : Word} {i : Instr} : w = encode i ↔ rsvField w = 0#24 ∧ opField w = opcodeOf i := by
  constructor
  · rintro rfl
    exact ⟨rsvField_encode i, opField_encode i⟩
  · rintro ⟨hrsv, hop⟩
    rw [← rsvField_append_opField w, hrsv, hop]
    rfl

/-! ## The decoder -/

theorem decode_eq_ok_iff {w : Word} {i : Instr} :
    decode w = .ok i ↔ rsvField w = 0#24 ∧ opField w = opcodeOf i := by
  rw [← opcodeMap_eq_some_iff]
  unfold decode
  split
  · next hrsv => cases opcodeMap (opField w) <;> simp [hrsv]
  · next hrsv => simp [hrsv]

theorem decode_encode (i : Instr) : decode (encode i) = .ok i := decode_eq_ok_iff.2 (eq_encode_iff.1 rfl)

theorem decode_eq_error_iff {w : Word} :
    (∃ e, decode w = .error e) ↔ rsvField w ≠ 0#24 ∨ opcodeMap (opField w) = none := by
  unfold decode
  split
  · next hrsv => cases opcodeMap (opField w) <;> simp [hrsv]
  · next hrsv => simp [hrsv]

/-- Settles O8: both readings say that RSV is 0 and that OP is the opcode of the command. -/
theorem decodeFollowsTheOpcodeMap : Obligations.DecodeFollowsTheOpcodeMap := by
  refine fun w i => ⟨decode_eq_ok_iff.trans (and_congr_right fun _ => ?_), decode_eq_ok_iff.trans eq_encode_iff.symm⟩
  cases i <;> simp [opField, opcodeOf]

/-- Settles O9: each word is the encoding of its command. -/
theorem sampleWordsDecode : Obligations.SampleWordsDecode :=
  ⟨decode_encode .keccakF, decode_encode .sha3Hash, decode_encode .mgf1, decode_encode .oaepDec,
    decode_encode .b64Enc⟩

/-! ## An illegal word (R83, R198) -/

/-- The engine completes an illegal word with BAD_CMD. -/
theorem engineStep_of_illegal {s : State} {w : Word} {e : DecodeError} (hd : decode w = .error e)
    (hw : s.inFlight = some w) : engineStep s = .next (s.failed .badCmd) := by
  rcases engineStep_cases s with ⟨hn, -⟩ | ⟨w', i, hw', hd', -⟩ | ⟨w', e', hw', -, he⟩
  · simp [hw] at hn
  · obtain rfl := Option.some.inj (hw.symm.trans hw')
    simp [hd] at hd'
  · exact he

/-- An idle write to CMD issues its word, legal or not. -/
theorem State.hostWrite_cmd_of_idle {s : State} (hb : s.busy = false) (w : Word) :
    s.hostWrite 0x010#32 w = s.issue w := by
  rw [State.hostWrite_of_target (r := .cmd) rfl]
  exact State.droppable_of_idle hb _

/-- Settles O10: the map's gaps are the illegal words, which issue like any other and then only report BAD_CMD. -/
theorem illegalWordsIssueAndFailWithBadCmd : Obligations.IllegalWordsIssueAndFailWithBadCmd := by
  refine ⟨fun w => ?illegal, fun s w e _ hb => ?issues, fun s w e hd hw => ?fails⟩
  case illegal => exact decode_eq_error_iff.trans (or_congr Iff.rfl opcodeMap_eq_none_iff)
  case issues =>
    rw [State.hostWrite_cmd_of_idle hb]
    exact ⟨rfl, rfl, rfl⟩
  case fails => exact engineStep_of_illegal hd hw

end Sys2Proof.Machine
end

section
/-! SUPPORT. The frames of the commands: the bytes of LMEM and the registers that each of them leaves alone (R81). -/

namespace Sys2Proof.Machine

variable {s t : State}

/-- Settles O25: these three succeed with the empty string stored, or fail. -/
theorem spongeCommandsStoreNothing : Obligations.SpongeCommandsStoreNothing := by
  intro i s t hi h
  obtain ⟨hfinal, hhash, henc⟩ : i ≠ .sha3Final ∧ i ≠ .sha3Hash ∧ i ≠ .oaepEnc := by
    rcases hi with rfl | rfl | rfl <;> decide
  rcases exec_cases i s with ⟨e, -, heq⟩ | ⟨c, p, d, sd, sv, v, heq, -, -, -, hd, hs, hv⟩ <;>
    obtain rfl := Host.Outcome.next.inj (h.symm.trans heq)
  · simp
  · obtain rfl := hv hi
    obtain rfl := hd hfinal hhash
    obtain ⟨rfl, rfl⟩ := hs henc
    exact ⟨fun _ => rfl, rfl, rfl, rfl⟩

/-- Every byte of LMEM outside the region q reads in t as in s. -/
def KeepsOutside (s : State) (q : Region) (t : State) : Prop :=
  ∀ a, ¬ q.contains a → t.lmem.read a = s.lmem.read a

namespace FailsOr

variable {Q : State → Prop} {r : Result}

/-- The rest of a command after a read runs on the string that LMEM holds there. -/
theorem memRead_bytes {q : Region} {k : List Byte → Result} (h : FailsOr s Q (k (s.lmem.readBytes q.addr q.len))) :
    FailsOr s Q (s.memRead q k) := by
  by_cases hq : s.valid q
  · rwa [State.memRead_of_valid hq]
  · rw [State.memRead, if_neg hq]
    rintro t ⟨⟩

theorem raised {e : ErrCode} : FailsOr s Q (s.raise e) := by
  rintro t ⟨⟩
  exact .inl ⟨e, rfl⟩

/-- A command that ends by storing a string at DST_ADDR changes no byte outside it. -/
theorem storedAtDst (hwf : s.lmem.wf) {u : State} {v : List Byte} {n m : Nat} (hv : v.length = n)
    (hu : u.lmem = s.lmem := by rfl) :
    FailsOr s (KeepsOutside s (s.dst n)) (u.memWrite s.dstAddr.toNat v fun t => t.complete m) := by
  subst hv
  refine .stored fun a ha => ?_
  change (u.lmem.writeBytes s.dstAddr.toNat v).read a = s.lmem.read a
  rw [hu]
  exact Memory.read_writeBytes_of_not hwf ha

/-- A failure changes no byte at all. -/
theorem keepsOutside {q : Region} (h : FailsOr s (KeepsOutside s q) r) (ht : r = .next t) : KeepsOutside s q t := by
  rcases h t ht with ⟨e, rfl⟩ | hq
  · exact fun _ _ => rfl
  · exact hq

end FailsOr

section
variable (hwf : s.lmem.wf)
include hwf

theorem sha3Final_keepsOutside : FailsOr s (KeepsOutside s (s.dst 32)) (exec .sha3Final s) :=
  .check fun _ => .check fun _ => .storedAtDst hwf (Lanes.digest_length _)

theorem sha3Hash_keepsOutside : FailsOr s (KeepsOutside s (s.dst 32)) (exec .sha3Hash s) :=
  .check fun _ => .check fun _ => .check fun _ => .memRead fun _ => .storedAtDst hwf (sha3_length _)

theorem mgf1_keepsOutside : FailsOr s (KeepsOutside s (s.dst s.outLen.toNat)) (exec .mgf1 s) :=
  .check fun _ => .check fun _ => .check fun _ => .memRead fun _ => .storedAtDst hwf (mgf1_length _ _)

/-- The block fills its k bytes because the message has passed the length check. -/
theorem oaepEnc_keepsOutside : FailsOr s (KeepsOutside s (s.dst s.kLen.toNat)) (exec .oaepEnc s) := by
  refine .check fun hfits => .check fun _ => .check fun _ => .check fun _ => .check fun _ => .memRead_bytes ?_
  have hfits : (s.lmem.readBytes s.src.addr s.src.len).length + 66 ≤ s.kLen.toNat := by
    rw [Memory.readBytes_length]
    change s.srcLen.toNat + 66 ≤ s.kLen.toNat
    omega
  exact .storedAtDst hwf (oaepEncode_length hfits (bytesOfWords_length s.seed))

theorem oaepDec_keepsOutside {m : List Byte}
    (hm : oaepDecode (s.lmem.readBytes s.srcAddr.toNat s.kLen.toNat) s.kLen.toNat = .ok m) :
    FailsOr s (KeepsOutside s (s.dst m.length)) (exec .oaepDec s) := by
  refine .check fun _ => .check fun _ => .check fun _ => .check fun _ => .memRead_bytes ?_
  rw [State.srcBlock, hm]
  exact .storedAtDst hwf rfl

theorem b64Enc_keepsOutside : FailsOr s (KeepsOutside s (s.dst (b64TextLen s.srcLen.toNat))) (exec .b64Enc s) := by
  refine .check fun _ => .check fun _ => .check fun _ => .memRead_bytes (.storedAtDst hwf ?_)
  rw [b64Encode_length, Memory.readBytes_length, State.src]

/-- The output has its exact length because the text has passed the check of its length. -/
theorem b64Dec_keepsOutside :
    FailsOr s (KeepsOutside s (s.dst (b64DecodedLen (s.lmem.readBytes s.srcAddr.toNat s.srcLen.toNat))))
      (exec .b64Dec s) := by
  refine .check fun hlen => .check fun _ => .memRead_bytes (.check fun _ => .check fun _ => ?_)
  split
  · exact .raised
  · exact .storedAtDst hwf (b64Decode_length (by rw [Memory.readBytes_length]; exact not_not.1 hlen))

end

/-- OAEP_DEC of a block that does not decode fails. -/
theorem oaepDec_failed {e : ErrCode}
    (he : oaepDecode (s.lmem.readBytes s.srcAddr.toNat s.kLen.toNat) s.kLen.toNat = .error e)
    (h : exec .oaepDec s = .next t) : ∃ e', t = s.failed e' := by
  have hends : FailsOr s (fun _ => False) (exec .oaepDec s) := by
    refine .check fun _ => .check fun _ => .check fun _ => .check fun _ => .memRead_bytes ?_
    rw [State.srcBlock, he]
    exact .check fun _ => .raised
  exact (hends t h).resolve_right id

/-- Settles O26: each command stores one string at DST_ADDR, whose length is the command's own. -/
theorem storingCommandsChangeOnlyTheirBytes : Obligations.StoringCommandsChangeOnlyTheirBytes := by
  refine fun s t hwf => ⟨fun i n hin h => ?stores, fun h => ⟨fun e he a => ?undecoded, fun m hm => ?decoded⟩⟩
  case stores =>
    simp only [List.mem_cons, List.not_mem_nil, Prod.mk.injEq, or_false] at hin
    obtain ⟨rfl, rfl⟩ | ⟨rfl, rfl⟩ | ⟨rfl, rfl⟩ | ⟨rfl, rfl⟩ | ⟨rfl, rfl⟩ | ⟨rfl, rfl⟩ := hin
    · exact (sha3Final_keepsOutside hwf).keepsOutside h
    · exact (sha3Hash_keepsOutside hwf).keepsOutside h
    · exact (mgf1_keepsOutside hwf).keepsOutside h
    · exact (oaepEnc_keepsOutside hwf).keepsOutside h
    · exact (b64Enc_keepsOutside hwf).keepsOutside h
    · exact (b64Dec_keepsOutside hwf).keepsOutside h
  case undecoded =>
    obtain ⟨e', rfl⟩ := oaepDec_failed he h
    rfl
  case decoded => exact (oaepDec_keepsOutside hwf hm).keepsOutside h

end Sys2Proof.Machine
end

section
/-! SUPPORT. The steps of Keccak-f lane by lane, and why each of them can be undone (R101 to R109). -/

namespace Sys2Proof.Machine

/-! ## The byte view (R101) -/

/-- Byte i of a packed lane. -/
theorem leWord8_byte (l : List Byte) (i : Fin 8) : (leWord8 l).extractLsb' (8 * i.val) 8 = l.getD i.val 0#8 := by
  unfold leWord8
  fin_cases i <;> simp (disch := decide) only [BitVec.extractLsb'_append_eq_of_le]
  on_goal 8 => exact BitVec.extractLsb'_eq_self
  all_goals exact BitVec.extractLsb'_append_eq_right

/-- A lane is the little-endian packing of its eight bytes. -/
theorem leWord8_leBytes8 (v : Lane) : leWord8 (leBytes8 v) = v := by
  change v.extractLsb' 56 8 ++ v.extractLsb' 48 8 ++ v.extractLsb' 40 8 ++ v.extractLsb' 32 8 ++ v.extractLsb' 24 8
    ++ v.extractLsb' 16 8 ++ v.extractLsb' 8 8 ++ v.extractLsb' 0 8 = v
  iterate 7 rw [BitVec.extractLsb'_append_extractLsb'_eq_extractLsb' (by decide)]
  exact BitVec.extractLsb'_eq_self

/-- Byte b of lane i is S[8i + b]. -/
theorem Lanes.getByte_eq (A : Lanes) (i : Fin 25) {b : Nat} (hb : b < 8) :
    A.getByte ⟨8 * i.val + b, by omega⟩ = A[i].extractLsb' (8 * b) 8 := by
  have hlane : (8 * i.val + b) / 8 = i.val := by omega
  have hpos : (8 * i.val + b) % 8 = b := by omega
  simp only [Lanes.getByte, Fin.getElem_fin, hlane, hpos]

theorem Lanes.getByte_eq_lane (A : Lanes) (j : Fin 200) :
    A.getByte j = (A.lane (j.val / 8 % 5) (j.val / 8 / 5)).extractLsb' (8 * (j.val % 8)) 8 := by
  have hlane : (laneIndex (j.val / 8 % 5) (j.val / 8 / 5)).val = j.val / 8 := by simp only [laneIndex]; omega
  simp only [Lanes.getByte, Lanes.lane, Fin.getElem_fin, hlane]

/-- Settles O45: a byte and a lane are slices of the same 64 bits. -/
theorem byteViewOfTheState : Obligations.ByteViewOfTheState := by
  refine ⟨Lanes.getByte_eq_lane, fun A i => ?lane, Lanes.getByte_setByte⟩
  case lane =>
    rw [A.getByte_eq i (b := 7) (by decide), A.getByte_eq i (b := 6) (by decide), A.getByte_eq i (b := 5) (by decide),
      A.getByte_eq i (b := 4) (by decide), A.getByte_eq i (b := 3) (by decide), A.getByte_eq i (b := 2) (by decide),
      A.getByte_eq i (b := 1) (by decide), show A.getByte ⟨8 * i.val, _⟩ = _ from A.getByte_eq i (b := 0) (by decide)]
    exact (leWord8_leBytes8 A[i]).symm

/-! ## Rotation (R102) -/

theorem rotl64_toNat (v : Lane) {n : Nat} (h0 : 0 < n) (hn : n < 64) :
    (rotl64 v n).toNat = ((v.toNat <<< n) ||| (v.toNat >>> (64 - n))) % 2 ^ 64 := by
  have hlow : v.toNat >>> (64 - n) < 2 ^ 64 := (Nat.shiftRight_le _ _).trans_lt v.isLt
  rw [rotl64, if_neg (by omega), BitVec.toNat_or, BitVec.toNat_shiftLeft, BitVec.toNat_ushiftRight,
    Nat.or_mod_two_pow, Nat.mod_eq_of_lt hlow]

/-- Bit t moves to (t + n) mod 64. -/
theorem rotl64_getLsbD (v : Lane) {n t : Nat} (hn : n < 64) (ht : t < 64) :
    (rotl64 v n).getLsbD ((t + n) % 64) = v.getLsbD t := by
  unfold rotl64
  split
  · next h0 => rw [h0, Nat.add_zero, Nat.mod_eq_of_lt ht]
  · rw [BitVec.getLsbD_or, BitVec.getLsbD_shiftLeft, BitVec.getLsbD_ushiftRight]
    by_cases hwrap : t + n < 64
    · simp [Nat.mod_eq_of_lt hwrap, hwrap, BitVec.getLsbD_of_ge v (64 - n + (t + n)) (by omega)]
    · have hmod : (t + n) % 64 = t + n - 64 := by omega
      have hlow : t + n - 64 < n := by omega
      have hbit : 64 - n + (t + n - 64) = t := by omega
      simp [hmod, hlow, hbit]

/-- Settles O46: the shifts of the definition, in ℕ and bit by bit. -/
theorem rotationMovesBitsUp : Obligations.RotationMovesBitsUp :=
  ⟨fun v _ => rotl64_toNat v, fun _ => ⟨rfl, BitVec.toNat_not⟩, fun v _ _ => rotl64_getLsbD v⟩

theorem rotl64_injective {n : Nat} (hn : n < 64) : Function.Injective (rotl64 · n) := by
  intro u v h
  refine BitVec.eq_of_getLsbD_eq fun t ht => ?_
  rw [← rotl64_getLsbD u hn ht, ← rotl64_getLsbD v hn ht]
  exact congrArg (BitVec.getLsbD · ((t + n) % 64)) h

theorem rotl64_xor (u v : Lane) {n : Nat} (hn : n < 64) : rotl64 (u ^^^ v) n = rotl64 u n ^^^ rotl64 v n := by
  refine BitVec.eq_of_getLsbD_eq fun t ht => ?_
  obtain ⟨k, hk, rfl⟩ : ∃ k < 64, (k + n) % 64 = t := ⟨(t + (64 - n)) % 64, Nat.mod_lt _ (by decide), by omega⟩
  rw [BitVec.getLsbD_xor, rotl64_getLsbD _ hn hk, rotl64_getLsbD _ hn hk, rotl64_getLsbD _ hn hk, BitVec.getLsbD_xor]

/-- Rotating by one bit n times moves bit t to (t + n) mod 64. -/
theorem rotl64_one_iterate_getLsbD (v : Lane) (n : Nat) {t : Nat} (ht : t < 64) :
    ((rotl64 · 1)^[n] v).getLsbD ((t + n) % 64) = v.getLsbD t := by
  induction n with
  | zero => rw [Nat.add_zero, Nat.mod_eq_of_lt ht]; rfl
  | succ n ih =>
    rw [Function.iterate_succ_apply', ← ih, ← rotl64_getLsbD _ (n := 1) (by decide) (Nat.mod_lt (t + n) (by decide)),
      Nat.mod_add_mod, Nat.add_assoc]

theorem rotl64_one_iterate_64 : (rotl64 · 1)^[64] = id := by
  funext v
  refine BitVec.eq_of_getLsbD_eq fun t ht => ?_
  have hbit := rotl64_one_iterate_getLsbD v 64 ht
  rwa [Nat.add_mod_right, Nat.mod_eq_of_lt ht] at hbit

/-! ## θ, χ and ι (R103, R106, R107) -/

theorem theta_lane (A : Lanes) (x y : Nat) : (theta A).lane x y = A.lane x y ^^^ thetaD A (x % 5) := by
  rw [theta, Lanes.lane_build, Lanes.lane_mod]

theorem thetaC_mod (A : Lanes) (x : Nat) : thetaC A (x % 5) = thetaC A x := by
  have hlane : ∀ y, A.lane (x % 5) y = A.lane x y := fun y => A.lane_congr (Nat.mod_mod x 5) rfl
  simp only [thetaC, hlane]

theorem thetaD_eq (A : Lanes) (x : Nat) :
    thetaD A (x % 5) = thetaC A ((x + 4) % 5) ^^^ rotl64 (thetaC A ((x + 1) % 5)) 1 := by
  rw [thetaD, ← thetaC_mod A (x % 5 + 4), ← thetaC_mod A (x % 5 + 1), Nat.mod_add_mod, Nat.mod_add_mod]

theorem chi_lane (A : Lanes) (x y : Nat) :
    (chi A).lane x y = A.lane x y ^^^ (~~~(A.lane (x + 1) y) &&& A.lane (x + 2) y) := by
  have hlane : ∀ d, A.lane (x % 5 + d) (y % 5) = A.lane (x + d) y := fun d =>
    A.lane_congr (Nat.mod_add_mod x 5 d) (Nat.mod_mod y 5)
  rw [chi, Lanes.lane_build, hlane, hlane, Lanes.lane_mod]

theorem iota_lane (i : Nat) (A : Lanes) {x y : Nat} (hx : x < 5) (hy : y < 5) :
    (iota i A).lane x y = if x = 0 ∧ y = 0 then A.lane 0 0 ^^^ roundConstant i else A.lane x y := by
  rw [iota, Lanes.lane_setLane, Nat.mod_eq_of_lt hx, Nat.mod_eq_of_lt hy]
  simp only [Nat.zero_mod, eq_comm]

/-- Settles O47: lane (x, y) of the three steps, coordinates taken mod 5. -/
theorem thetaChiIotaFormulas : Obligations.ThetaChiIotaFormulas := by
  refine fun A x y hx hy => ⟨?theta, ?chi, fun i _ => iota_lane i A hx hy⟩
  case theta =>
    rw [theta_lane, thetaD_eq]
    rfl
  case chi =>
    rw [chi_lane, A.lane_congr (x' := (x + 1) % 5) (Nat.mod_mod _ 5).symm rfl,
      A.lane_congr (x' := (x + 2) % 5) (Nat.mod_mod _ 5).symm rfl]

/-! ## ρ and π (R104, R105) -/

theorem mem_lanePairs {x y : Nat} (hx : x < 5) (hy : y < 5) : (x, y) ∈ lanePairs := by
  have hall : ∀ x y : Fin 5, (x.val, y.val) ∈ lanePairs := by decide
  exact hall ⟨x, hx⟩ ⟨y, hy⟩

theorem lt_of_mem_lanePairs {p : Nat × Nat} (hp : p ∈ lanePairs) : p.1 < 5 ∧ p.2 < 5 := by
  have hall : ∀ p ∈ lanePairs, p.1 < 5 ∧ p.2 < 5 := by decide
  exact hall p hp

/-- Lanes written one after the other, at places that differ: each keeps what was written there. -/
theorem Lanes.lane_foldl_setLane (f g : Nat × Nat → Nat) (v : Nat × Nat → Lane) {l : List (Nat × Nat)} {p : Nat × Nat}
    (hp : p ∈ l) (hinj : ∀ q ∈ l, f q % 5 = f p % 5 → g q % 5 = g p % 5 → q = p) (B : Lanes) :
    (l.foldl (fun B q => B.setLane (f q) (g q) (v q)) B).lane (f p) (g p) = v p := by
  induction l using List.reverseRecOn with
  | nil => simp at hp
  | append_singleton l q ih =>
    rw [List.foldl_append, List.foldl_cons, List.foldl_nil, Lanes.lane_setLane]
    split
    · next h => rw [hinj q (by simp) h.1 h.2]
    · next h =>
      have hqp : p ≠ q := by rintro rfl; exact h ⟨rfl, rfl⟩
      exact ih (by simpa [hqp] using hp) fun r hr => hinj r (by simp [hr])

/-- π sends different lanes to different lanes: x and y can be read back from (y, 2x + 3y) mod 5. -/
theorem rhoPi_lane (A : Lanes) {x y : Nat} (hx : x < 5) (hy : y < 5) :
    (rhoPi A).lane y (2 * x + 3 * y) = rotl64 (A.lane x y) (rhoOffset x y) := by
  refine Lanes.lane_foldl_setLane (fun p => p.2) (fun p => 2 * p.1 + 3 * p.2)
    (fun p => rotl64 (A.lane p.1 p.2) (rhoOffset p.1 p.2)) (mem_lanePairs hx hy) (fun q hq hrow hcol => ?_) Lanes.zero
  have hlt := lt_of_mem_lanePairs hq
  dsimp only at hrow hcol
  exact Prod.ext (by dsimp only; omega) (by dsimp only; omega)

/-- Settles O48: the table of offsets, the lanes moved, and the list of their indices. -/
theorem rhoPiMovesEveryLane : Obligations.RhoPiMovesEveryLane := by
  refine ⟨by decide, fun A x y hx hy => ?_, by decide⟩
  rw [(rhoPi A).lane_congr (y' := 2 * x + 3 * y) rfl (Nat.mod_mod _ 5)]
  exact rhoPi_lane A hx hy

theorem rhoOffset_lt (x y : Nat) : rhoOffset x y < 64 := by
  have htable : ∀ i : Fin 25, rhoOffsets.getD i.val 0 < 64 := by decide
  exact htable (laneIndex x y)

/-- Settles O50: closed computations on the two tables. -/
theorem tablesMatchTheirGenerators : Obligations.TablesMatchTheirGenerators := by
  refine ⟨?constants, ?offsets, ?visited, rfl⟩
  case constants => decide +kernel
  case offsets => decide
  case visited => decide

/-! ## Every step of a round is injective -/

theorem iota_injective (i : Nat) : Function.Injective (iota i) := by
  intro A B h
  refine Lanes.ext_lane fun x y hx hy => ?_
  have hlane := congrArg (Lanes.lane · x y) h
  simp only [iota_lane i _ hx hy] at hlane
  split at hlane
  · next h0 =>
    obtain ⟨rfl, rfl⟩ := h0
    exact (BitVec.xor_left_inj _).1 hlane
  · exact hlane

theorem rhoPi_injective : Function.Injective rhoPi := by
  intro A B h
  refine Lanes.ext_lane fun x y hx hy => rotl64_injective (rhoOffset_lt x y) ?_
  dsimp only
  rw [← rhoPi_lane A hx hy, ← rhoPi_lane B hx hy, h]

/-- A lane of a row before χ, from the row after it. -/
theorem chi_row_inverse {b0 b1 b2 b3 b4 a0 a1 a2 a3 a4 : Lane} (h0 : a0 = b0 ^^^ (~~~b1 &&& b2))
    (h1 : a1 = b1 ^^^ (~~~b2 &&& b3)) (h2 : a2 = b2 ^^^ (~~~b3 &&& b4)) (h3 : a3 = b3 ^^^ (~~~b4 &&& b0))
    (h4 : a4 = b4 ^^^ (~~~b0 &&& b1)) :
    b0 = a0 ^^^ (~~~a1 &&& (a2 ^^^ (~~~a3 &&& (a4 ^^^ (~~~a0 &&& a1))))) := by
  have hbit : ∀ b0 b1 b2 b3 b4 : Bool,
      b0 = ((b0 ^^ (!b1 && b2)) ^^ (!(b1 ^^ (!b2 && b3)) && ((b2 ^^ (!b3 && b4)) ^^ (!(b3 ^^ (!b4 && b0)) &&
        ((b4 ^^ (!b0 && b1)) ^^ (!(b0 ^^ (!b1 && b2)) && (b1 ^^ (!b2 && b3)))))))) := by decide
  subst h0 h1 h2 h3 h4
  ext i hi
  simpa [hi] using hbit b0[i] b1[i] b2[i] b3[i] b4[i]

/-- χ undone, lane by lane. -/
theorem lane_of_chi (A : Lanes) (x y : Nat) :
    A.lane x y = (chi A).lane x y ^^^ (~~~(chi A).lane (x + 1) y &&& ((chi A).lane (x + 2) y ^^^
      (~~~(chi A).lane (x + 3) y &&& ((chi A).lane (x + 4) y ^^^ (~~~(chi A).lane x y &&& (chi A).lane (x + 1) y))))) := by
  have h5 : A.lane (x + 5) y = A.lane x y := A.lane_congr (Nat.add_mod_right x 5) rfl
  have h6 : A.lane (x + 6) y = A.lane (x + 1) y := A.lane_congr (Nat.add_mod_right (x + 1) 5) rfl
  exact chi_row_inverse (chi_lane A x y) (chi_lane A (x + 1) y) (chi_lane A (x + 2) y)
    (by rw [← h5]; exact chi_lane A (x + 3) y) (by rw [← h5, ← h6]; exact chi_lane A (x + 4) y)

theorem chi_injective : Function.Injective chi := by
  intro A B h
  refine Lanes.ext_lane fun x y _ _ => ?_
  rw [lane_of_chi A, lane_of_chi B, h]

/-! θ acts on the five column parities as multiplication by u = 1 + x + x⁻¹z, for x a step along the row (x⁵ = 1) and z
a rotation by one bit (z⁶⁴ = 1).  Over two-element coefficients u⁶⁴ = 1 + x⁶⁴ + x⁻⁶⁴z⁶⁴ = 1 + x⁴ + x, whose inverse is
its square. -/

/-- Multiplication of five columns by 1 + xᵃ + x⁻ᵃR, for a map R of lanes. -/
def columnMix (a : ZMod 5) (R : Lane → Lane) (C : ZMod 5 → Lane) (x : ZMod 5) : Lane :=
  C x ^^^ (C (x - a) ^^^ R (C (x + a)))

theorem lane_xor_left_comm (u v w : Lane) : u ^^^ (v ^^^ w) = v ^^^ (u ^^^ w) := by
  rw [← BitVec.xor_assoc, BitVec.xor_comm u v, BitVec.xor_assoc]

/-- Squaring: the cross terms cancel. -/
theorem columnMix_columnMix {a : ZMod 5} {R : Lane → Lane} (hR : ∀ u v, R (u ^^^ v) = R u ^^^ R v) (C : ZMod 5 → Lane) :
    columnMix a R (columnMix a R C) = columnMix (a + a) (R ∘ R) C := by
  funext x
  simp only [columnMix, hR, sub_add_cancel, add_sub_cancel_right, sub_sub, add_assoc, Function.comp_apply]
  simp only [BitVec.xor_assoc, BitVec.xor_comm, lane_xor_left_comm, xor_cancel_left]

theorem iterate_xor {R : Lane → Lane} (hR : ∀ u v, R (u ^^^ v) = R u ^^^ R v) (n : Nat) (u v : Lane) :
    R^[n] (u ^^^ v) = R^[n] u ^^^ R^[n] v := by
  induction n with
  | zero => rfl
  | succ n ih => rw [Function.iterate_succ_apply', Function.iterate_succ_apply', Function.iterate_succ_apply', ih, hR]

theorem columnMix_iterate {R : Lane → Lane} (hR : ∀ u v, R (u ^^^ v) = R u ^^^ R v) (a : ZMod 5) (n : Nat) :
    (columnMix a R)^[2 ^ n] = columnMix (2 ^ n * a) R^[2 ^ n] := by
  induction n with
  | zero => simp
  | succ n ih =>
    rw [pow_succ, mul_two, Function.iterate_add, Function.iterate_add, ih]
    funext C
    rw [Function.comp_apply, columnMix_columnMix (iterate_xor hR (2 ^ n))]
    congr 1
    ring

/-- 1 + x⁴ + x times 1 + x³ + x² is 1. -/
theorem columnMix_four_injective : Function.Injective (columnMix 4 id) := by
  refine Function.LeftInverse.injective (g := columnMix 3 id) fun C => funext fun x => ?_
  have hmod : ∀ x : ZMod 5, x - 4 = x + 1 ∧ x - 3 = x + 2 ∧ x + 2 - 4 = x + 3 ∧ x + 2 + 4 = x + 1 ∧
      x + 3 - 4 = x + 4 ∧ x + 3 + 4 = x + 2 := by decide
  obtain ⟨hback4, hback3, hback24, hon24, hback34, hon34⟩ := hmod x
  simp only [columnMix, id, hback4, hback3, hback24, hon24, hback34, hon34]
  simp [BitVec.xor_assoc, BitVec.xor_comm, lane_xor_left_comm, xor_cancel_left]

/-- The 64th power of the map of the columns, and with it the map itself, is injective. -/
theorem columnMix_one_injective : Function.Injective (columnMix 1 (rotl64 · 1)) := by
  have hpow : (columnMix 1 (rotl64 · 1))^[63] ∘ columnMix 1 (rotl64 · 1) = columnMix 4 id := by
    rw [← Function.iterate_succ, ← rotl64_one_iterate_64]
    exact columnMix_iterate (fun u v => rotl64_xor u v (by decide)) 1 6
  exact Function.Injective.of_comp (hpow ▸ columnMix_four_injective)

/-- The five column parities of a state. -/
def columns (A : Lanes) (x : ZMod 5) : Lane := thetaC A x.val

theorem thetaC_eq_columns (A : Lanes) (x : Nat) : thetaC A x = columns A x := by
  rw [columns, ZMod.val_natCast, thetaC_mod]

theorem thetaD_eq_columns (A : Lanes) (x : Nat) :
    thetaD A x = columns A (x - 1) ^^^ rotl64 (columns A (x + 1)) 1 := by
  have hpred : ((x + 4 : Nat) : ZMod 5) = x - 1 := by rw [Nat.cast_add, sub_eq_add_neg]; rfl
  rw [thetaD, thetaC_eq_columns, thetaC_eq_columns, hpred, Nat.cast_succ]

theorem columns_theta (A : Lanes) : columns (theta A) = columnMix 1 (rotl64 · 1) (columns A) := by
  funext x
  have hsum : thetaC (theta A) x.val = thetaC A x.val ^^^ thetaD A (x.val % 5) := by
    simp only [thetaC, theta_lane, BitVec.xor_assoc, BitVec.xor_comm, lane_xor_left_comm, xor_cancel_left]
  rw [columns, hsum, thetaC_eq_columns, thetaD_eq_columns, ZMod.natCast_mod, ZMod.natCast_zmod_val, columnMix]

theorem theta_injective : Function.Injective theta := by
  intro A B h
  have hcolumns : columns A = columns B :=
    columnMix_one_injective (by rw [← columns_theta, ← columns_theta, h])
  refine Lanes.ext_lane fun x y _ _ => ?_
  have hlane := congrArg (Lanes.lane · x y) h
  simp only [theta_lane, thetaD_eq_columns, hcolumns] at hlane
  exact (BitVec.xor_left_inj _).1 hlane

theorem keccakRound_injective (i : Nat) : Function.Injective (keccakRound · i) := fun A B h => by
  simp only [keccakRound] at h
  exact theta_injective (rhoPi_injective (chi_injective (iota_injective i h)))

theorem foldl_keccakRound_injective (l : List Nat) : Function.Injective (l.foldl keccakRound) := by
  induction l with
  | nil => exact Function.injective_id
  | cons i l ih => exact ih.comp (keccakRound_injective i)

theorem finite_lanes : Finite Lanes :=
  Finite.of_injective (fun (A : Lanes) (i : Fin 25) => A[i]) fun _ _ h => Vector.ext fun i hi => congrFun h ⟨i, hi⟩

/-- Settles O49: every round is injective, and there are finitely many states. -/
theorem keccakFIsABijection : Obligations.KeccakFIsABijection :=
  ⟨fun _ => rfl, have := finite_lanes; (foldl_keccakRound_injective (List.range 24)).bijective_of_finite⟩

end Sys2Proof.Machine
end

section
/-! SUPPORT. The sponge byte by byte, against the source's blocks (R111 to R113). -/

namespace Sys2Proof.Machine

/-! ## Absorbing a string (R111) -/

theorem Sponge.absorbByte_of_room {c : Sponge} (h : c.pos.val + 1 < 136) (b : Byte) :
    c.absorbByte b = { a := c.a.xorByte c.pos b, pos := ⟨c.pos.val + 1, h⟩ } := dif_pos h

theorem Sponge.absorbByte_of_full {c : Sponge} (h : ¬ c.pos.val + 1 < 136) (b : Byte) :
    c.absorbByte b = { a := keccakF (c.a.xorByte c.pos b), pos := 0 } := dif_neg h

theorem Sponge.absorb_cons (c : Sponge) (b : Byte) (m : List Byte) : c.absorb (b :: m) = (c.absorbByte b).absorb m := rfl

theorem Sponge.absorbByte_pos (c : Sponge) (b : Byte) : (c.absorbByte b).pos.val = (c.pos.val + 1) % 136 := by
  by_cases h : c.pos.val + 1 < 136
  · rw [Sponge.absorbByte_of_room h, Nat.mod_eq_of_lt h]
  · rw [Sponge.absorbByte_of_full h, show c.pos.val + 1 = 136 by omega]
    rfl

theorem Sponge.absorb_pos (c : Sponge) (m : List Byte) : (c.absorb m).pos.val = (c.pos.val + m.length) % 136 := by
  induction m generalizing c with
  | nil => exact (Nat.mod_eq_of_lt c.pos.isLt).symm
  | cons b m ih =>
    rw [Sponge.absorb_cons, ih, Sponge.absorbByte_pos, List.length_cons, Nat.mod_add_mod, Nat.add_assoc,
      Nat.add_comm 1]

/-- A string that does not fill the block is XORed in from POS on, with no permutation. -/
theorem Sponge.getByte_absorb (c : Sponge) {m : List Byte} (hm : c.pos.val + m.length < 136) (k : Fin 200) :
    (c.absorb m).a.getByte k =
      c.a.getByte k ^^^ if c.pos.val ≤ k.val then m.getD (k.val - c.pos.val) 0#8 else 0#8 := by
  induction m generalizing c with
  | nil => simp
  | cons b m ih =>
    rw [List.length_cons] at hm
    have hroom : c.pos.val + 1 < 136 := by omega
    rw [Sponge.absorb_cons, Sponge.absorbByte_of_room hroom, ih _ (by dsimp only; omega), Lanes.getByte_xorByte,
      BitVec.xor_assoc]
    dsimp only
    congr 1
    rcases Nat.lt_trichotomy k.val c.pos.val with hlt | heq | hgt
    · rw [if_neg (by omega), if_neg (by omega), if_neg (by omega), BitVec.xor_zero]
    · rw [if_pos heq, if_neg (by omega), if_pos (by omega), heq, Nat.sub_self, List.getD_cons_zero, BitVec.xor_zero]
    · obtain ⟨d, hd⟩ : ∃ d, k.val = c.pos.val + 1 + d := ⟨k.val - (c.pos.val + 1), by omega⟩
      rw [if_neg (by omega), if_pos (by omega), if_pos (by omega), BitVec.zero_xor, hd, Nat.add_sub_cancel_left,
        show c.pos.val + 1 + d - c.pos.val = d + 1 by omega, List.getD_cons_succ]

/-! ## The source's blocks (R113) -/

/-- A block XORed into the first 17 lanes, before the permutation. -/
def Lanes.xorBlock (A : Lanes) (block : List Byte) : Lanes :=
  .build fun x y => if x + 5 * y < 17 then A.lane x y ^^^ leWord8 (block.drop (8 * (x + 5 * y))) else A.lane x y

theorem sourceAbsorbBlock_eq (A : Lanes) (block : List Byte) : sourceAbsorbBlock A block = keccakF (A.xorBlock block) := rfl

/-- The first 17 lanes are the 136 bytes of the rate part. -/
theorem Lanes.getByte_xorBlock (A : Lanes) (block : List Byte) (k : Fin 200) :
    (A.xorBlock block).getByte k = A.getByte k ^^^ if k.val < 136 then block.getD k.val 0#8 else 0#8 := by
  have hx : k.val / 8 % 5 % 5 = k.val / 8 % 5 := Nat.mod_mod _ 5
  have hy : k.val / 8 / 5 % 5 = k.val / 8 / 5 := by omega
  have hlane : k.val / 8 % 5 + 5 * (k.val / 8 / 5) = k.val / 8 := Nat.mod_add_div _ 5
  rw [Lanes.getByte_eq_lane, Lanes.getByte_eq_lane, Lanes.xorBlock, Lanes.lane_build, hx, hy, hlane]
  by_cases hk : k.val < 136
  · have hbyte := leWord8_byte (block.drop (8 * (k.val / 8))) ⟨k.val % 8, Nat.mod_lt _ (by decide)⟩
    dsimp only at hbyte
    rw [if_pos (by omega), if_pos hk, BitVec.extractLsb'_xor, hbyte, List.getD_eq_getElem?_getD, List.getElem?_drop,
      Nat.div_add_mod, ← List.getD_eq_getElem?_getD]
  · rw [if_neg (by omega), if_neg hk, BitVec.xor_zero]

/-- From POS = 0, a string that does not fill the block and one more byte are the block of both. -/
theorem Sponge.xorByte_absorb {c : Sponge} (hc : c.pos = 0) {m : List Byte} (hm : m.length < 136) (b : Byte) :
    (c.absorb m).a.xorByte (c.absorb m).pos b = c.a.xorBlock (m ++ [b]) := by
  have hpos : (c.absorb m).pos.val = m.length := by
    rw [Sponge.absorb_pos, hc, Fin.val_zero, Nat.zero_add, Nat.mod_eq_of_lt hm]
  refine Lanes.ext_getByte fun k => ?_
  rw [Lanes.getByte_xorByte, Sponge.getByte_absorb c (by rw [hc, Fin.val_zero]; omega), hpos, Lanes.getByte_xorBlock, hc,
    Fin.val_zero, if_pos (Nat.zero_le _), Nat.sub_zero, BitVec.xor_assoc]
  congr 1
  rcases Nat.lt_trichotomy k.val m.length with hlt | heq | hgt
  · rw [if_neg (by omega), if_pos (by omega), BitVec.xor_zero, List.getD_append _ _ _ _ hlt]
  · rw [if_pos heq, if_pos (by omega), heq, List.getD_eq_default _ _ le_rfl, List.getD_append_right _ _ _ _ le_rfl]
    simp
  · rw [if_neg (by omega), List.getD_eq_default _ _ hgt.le, List.getD_eq_default _ _ (by simpa using hgt)]
    simp

/-- Absorbing a whole block from POS = 0 permutes once and ends at POS = 0. -/
theorem Sponge.absorb_block {c : Sponge} (hc : c.pos = 0) {m : List Byte} (hm : m.length = 136) :
    c.absorb m = { a := sourceAbsorbBlock c.a m, pos := 0 } := by
  obtain rfl | ⟨init, b, rfl⟩ := List.eq_nil_or_concat' m
  · simp at hm
  have hinit : init.length = 135 := by simpa using hm
  have hpos : (c.absorb init).pos.val = 135 := by rw [Sponge.absorb_pos, hc, Fin.val_zero, hinit]
  rw [Sponge.absorb_append, Sponge.absorb_cons, Sponge.absorb_nil, Sponge.absorbByte_of_full (by omega),
    Sponge.xorByte_absorb hc (by omega), sourceAbsorbBlock_eq]

/-! ## The source's padding (R113) -/

/-- The text before 0x80 is put into its last byte. -/
def unmarkedPad (m : List Byte) : List Byte := m ++ [0x06#8] ++ zeros (135 - m.length % 136)

theorem sourcePad_eq (m : List Byte) : sourcePad m =
    (unmarkedPad m).set ((unmarkedPad m).length - 1) ((unmarkedPad m).getD ((unmarkedPad m).length - 1) 0#8 ||| 0x80#8) :=
  rfl

theorem unmarkedPad_length (m : List Byte) : (unmarkedPad m).length = 136 * (m.length / 136 + 1) := by
  simp only [unmarkedPad, List.length_append, List.length_singleton, zeros_length]
  omega

theorem sourcePad_length (m : List Byte) : (sourcePad m).length = 136 * (m.length / 136 + 1) := by
  rw [sourcePad_eq, List.length_set, unmarkedPad_length]

/-- A whole block in front of the message is a whole block in front of its padded text. -/
theorem sourcePad_append {b : List Byte} (hb : b.length = 136) (m : List Byte) :
    sourcePad (b ++ m) = b ++ sourcePad m := by
  have hpad : unmarkedPad (b ++ m) = b ++ unmarkedPad m := by
    simp only [unmarkedPad, List.length_append, hb, Nat.add_mod_left, List.append_assoc]
  have hlen := unmarkedPad_length m
  have hlast : (b ++ unmarkedPad m).length - 1 = b.length + ((unmarkedPad m).length - 1) := by
    rw [List.length_append]
    omega
  rw [sourcePad_eq, sourcePad_eq, hpad, hlast, List.getD_append_right _ _ _ _ (by omega), Nat.add_sub_cancel_left,
    List.set_append_right _ _ (by omega), Nat.add_sub_cancel_left]

theorem getD_append_zeros (l : List Byte) (n k : Nat) : (l ++ zeros n).getD k 0#8 = l.getD k 0#8 := by
  by_cases hk : k < l.length
  · exact List.getD_append _ _ _ _ hk
  · rw [List.getD_append_right _ _ _ _ (by omega), List.getD_eq_default l _ (by omega), zeros]
    rw [List.getD_eq_getElem?_getD, List.getElem?_replicate]
    split <;> rfl

/-- The padded text of a message shorter than a block: 0x06 after it, and 0x80 XORed into byte 135. -/
theorem sourcePad_getD {m : List Byte} (hm : m.length < 136) (k : Nat) :
    (sourcePad m).getD k 0#8 = (m ++ [0x06#8]).getD k 0#8 ^^^ if k = 135 then 0x80#8 else 0#8 := by
  have hlen : (unmarkedPad m).length = 136 := by rw [unmarkedPad_length, Nat.div_eq_of_lt hm]
  have hbyte : ∀ k, (unmarkedPad m).getD k 0#8 = (m ++ [0x06#8]).getD k 0#8 := getD_append_zeros _ _
  rw [sourcePad_eq, hlen, hbyte, List.getD_eq_getElem?_getD, List.getElem?_set]
  by_cases hlast : k = 135
  · rw [if_pos hlast.symm, if_pos (by omega), if_pos hlast, hlast, Option.getD_some]
    by_cases hfull : m.length = 135
    · rw [List.getD_append_right _ _ _ _ hfull.le, hfull]
      decide
    · rw [List.getD_eq_default _ _ (by simp; omega)]
      decide
  · rw [if_neg (Ne.symm hlast), if_neg hlast, BitVec.xor_zero, ← List.getD_eq_getElem?_getD, hbyte]

/-- The last block: the two bytes of `Finalize()` are the padding of the source (R112, R113). -/
theorem Sponge.finalize_absorb {c : Sponge} (hc : c.pos = 0) {m : List Byte} (hm : m.length < 136) :
    (c.absorb m).finalize.a = sourceAbsorbBlock c.a (sourcePad m) := by
  rw [Sponge.finalize, sourceAbsorbBlock_eq, Sponge.xorByte_absorb hc hm]
  refine congrArg keccakF (Lanes.ext_getByte fun k => ?_)
  rw [Lanes.getByte_xorByte, Lanes.getByte_xorBlock, Lanes.getByte_xorBlock, BitVec.xor_assoc]
  congr 1
  by_cases hk : k.val < 136
  · rw [if_pos hk, if_pos hk, sourcePad_getD hm]
    rfl
  · rw [if_neg hk, if_neg hk, if_neg (show k.val ≠ (135 : Fin 136).val from fun h => hk (h ▸ by decide)),
      BitVec.xor_zero]

theorem sourceAbsorb_succ (n : Nat) (A : Lanes) (p : List Byte) :
    sourceAbsorb (n + 1) A p = sourceAbsorb n (sourceAbsorbBlock A (p.take 136)) (p.drop 136) := rfl

/-- The two hashes agree from any state with POS = 0, by induction on the number of whole blocks. -/
theorem Sponge.finalize_absorb_eq_sourceAbsorb (q : Nat) {c : Sponge} (hc : c.pos = 0) {m : List Byte}
    (hq : m.length / 136 = q) : (c.absorb m).finalize.a = sourceAbsorb (q + 1) c.a (sourcePad m) := by
  induction q generalizing c m with
  | zero =>
    have hm : m.length < 136 := by omega
    rw [Sponge.finalize_absorb hc hm, sourceAbsorb_succ, sourceAbsorb,
      List.take_of_length_le (by rw [sourcePad_length, hq])]
  | succ q ih =>
    obtain ⟨b, m, rfl, hb⟩ : ∃ b m', m = b ++ m' ∧ b.length = 136 :=
      ⟨m.take 136, m.drop 136, (List.take_append_drop 136 m).symm, by rw [List.length_take]; omega⟩
    rw [List.length_append, hb] at hq
    rw [Sponge.absorb_append, Sponge.absorb_block hc hb, ih rfl (by omega), sourcePad_append hb, sourceAbsorb_succ (q + 1),
      List.take_left' hb, List.drop_left' hb]

/-- Settles O51: the padded text block by block, from the empty sponge. -/
theorem bytewiseHashEqualsTheSourcesPadding : Obligations.BytewiseHashEqualsTheSourcesPadding := fun m =>
  have hstate := Sponge.finalize_absorb_eq_sourceAbsorb (m.length / 136) (c := Sponge.init) rfl (m := m) rfl
  ⟨sourcePad_length m, hstate, congrArg Lanes.digest hstate⟩

end Sys2Proof.Machine
end

section
/-! SUPPORT. The sponge commands: what each of them leaves, the stream over several of them, and the commands that hash
in a context of their own (R114 to R124). -/

namespace Sys2Proof.Machine

variable {s t : State}

/-! ## KECCAK_F, SHA3_INIT and SHA3_ABSORB (R120 to R122) -/

/-- Settles O15: KECCAK_F is one completion. -/
theorem keccakFPermutesTheState : Obligations.KeccakFPermutesTheState := fun _ => rfl

/-- SPONGE of a stream that has absorbed nothing (R38). -/
theorem State.spongeWord_of_init (hsponge : s.sponge = Sponge.init) (hphase : s.phase = .absorb) :
    s.spongeWord = 0x00000100#32 := by
  rw [State.spongeWord, hsponge, hphase]
  rfl

theorem Lanes.halfLane_zero (w : Fin 50) : Lanes.zero.halfLane w = 0#32 := by
  rw [Lanes.halfLane, Lanes.zero, Vector.getElem_replicate]
  exact BitVec.extractLsb'_zero

/-- Settles O16: SHA3_INIT is one completion, whose registers read as a fresh sponge. -/
theorem sha3InitStartsAStream : Obligations.Sha3InitStartsAStream := fun _ =>
  ⟨_, rfl, rfl, State.spongeWord_of_init rfl rfl, Lanes.halfLane_zero⟩

theorem sha3Init_starts (h : exec .sha3Init s = .next t) : t.sponge = Sponge.init ∧ t.phase = .absorb := by
  obtain rfl := Host.Outcome.next.inj h
  exact ⟨rfl, rfl⟩

theorem exec_sha3Absorb (hp : s.phase = .absorb) (hsrc : s.valid s.src) :
    exec .sha3Absorb s = .next
      ({ s with sponge := s.sponge.absorb (s.lmem.readBytes s.srcAddr.toNat s.srcLen.toNat) }.completed 0) := by
  rw [exec, execSha3Absorb, if_neg (not_not.2 hp), if_neg (not_not.2 hsrc), State.memRead_of_valid hsrc]
  rfl

/-- Settles O17: the source is absorbed byte by byte, which moves POS once a byte. -/
theorem sha3AbsorbAbsorbsTheSource : Obligations.Sha3AbsorbAbsorbsTheSource := by
  refine fun s hp hsrc => ⟨exec_sha3Absorb hp hsrc, ?position, fun hempty => ?empty⟩
  case position =>
    have hpos := s.sponge.absorb_pos (s.lmem.readBytes s.srcAddr.toNat s.srcLen.toNat)
    rwa [Memory.readBytes_length] at hpos
  case empty =>
    rw [hempty]
    rfl

/-! ## SHA3_FINAL and SHA3_256 (R123, R124) -/

theorem exec_sha3Final (hp : s.phase = .absorb) (hdst : s.valid (s.dst Config.hLen)) :
    exec .sha3Final s = .next { s with
      sponge := s.sponge.finalize, phase := .finalDone, digest := wordsOf32 s.sponge.finalize.a.digest,
      lmem := s.lmem.writeBytes s.dstAddr.toNat s.sponge.finalize.a.digest,
      resultLen := 32#32, inFlight := none, done := true, err := false, errCode := .ok } := by
  rw [exec, execSha3Final, if_neg (not_not.2 hp), if_neg (not_not.2 hdst)]
  dsimp only
  rw [State.memWrite_of_valid (by rw [Lanes.digest_length]; exact hdst)]
  generalize s.sponge.finalize.a.digest = d
  generalize s.sponge.finalize = c
  rfl

/-- Settles O19: with every check passed SHA3_256 stores the digest of its source. -/
theorem sha3HashWritesTheDigest : Obligations.Sha3HashWritesTheDigest := by
  intro s hsrc hdst hover
  change s.valid (s.dst Config.hLen) at hdst
  change ¬ s.src.overlaps (s.dst Config.hLen) at hover
  rw [exec, execSha3Hash, if_neg (not_not.2 hsrc), if_neg (not_not.2 hdst), if_neg hover, State.memRead_of_valid hsrc,
    State.memWrite_of_valid (by rw [sha3_length]; exact hdst), State.src]
  generalize sha3 (s.lmem.readBytes s.srcAddr.toNat s.srcLen.toNat) = d
  rfl

/-- Byte b of word j of a 32-byte string is its byte 4j + b. -/
theorem wordsOf32_byte (d : List Byte) (j : Fin 8) (b : Fin 4) :
    (wordsOf32 d)[j].extractLsb' (8 * b.val) 8 = d.getD (4 * j.val + b.val) 0#8 := by
  have hword : (wordsOf32 d)[j] = wordAt d j.val := by fin_cases j <;> rfl
  rw [hword, ← leBytes4_getD, wordAt, leBytes4_fromLe4]
  fin_cases b <;> rfl

/-- Two words with the same bytes are equal. -/
theorem word_ext_byte {u v : Word} (h : ∀ b : Fin 4, u.extractLsb' (8 * b.val) 8 = v.extractLsb' (8 * b.val) 8) :
    u = v := by
  rw [← fromLe4_leBytes4 u, ← fromLe4_leBytes4 v]
  exact congr (congr (congr (congrArg fromLe4 (h 0)) (h 1)) (h 2)) (h 3)

theorem Lanes.digest_getD (A : Lanes) (k : Fin 32) : A.digest.getD k.val 0#8 = A.getByte ⟨k.val, by omega⟩ := by
  rw [List.getD_eq_getElem?_getD, A.digest_getElem? k]
  rfl

/-- Word j of a digest is the half-lane j of its state (R39, R42). -/
theorem wordsOf32_digest_byte (A : Lanes) (j : Fin 8) (b : Fin 4) :
    (wordsOf32 A.digest)[j].extractLsb' (8 * b.val) 8 = A.getByte ⟨4 * j.val + b.val, by omega⟩ :=
  (wordsOf32_byte A.digest j b).trans (A.digest_getD ⟨4 * j.val + b.val, by omega⟩)

theorem wordsOf32_digest (A : Lanes) (j : Fin 8) : (wordsOf32 A.digest)[j] = A.halfLane ⟨j.val, by omega⟩ :=
  word_ext_byte fun b => (wordsOf32_digest_byte A j b).trans (A.halfLane_byte ⟨j.val, by omega⟩ b).symm

theorem Memory.read_writeDigest {m : Memory} (h : m.wf) (a : Nat) (A : Lanes) (k : Fin 32) :
    (m.writeBytes a A.digest).read (a + k.val) = A.getByte ⟨k.val, by omega⟩ := by
  rw [Memory.read_writeBytes h, if_pos (by simp), Nat.add_sub_cancel_left, Lanes.digest_getD]

/-- `Finalize()` byte by byte, up to its permutation (R112). -/
theorem Sponge.finalize_spec (c : Sponge) : c.finalize.pos = 0 ∧ ∃ A : Lanes,
    (∀ k : Fin 200, A.getByte k = c.a.getByte k ^^^ (if k.val = c.pos.val then 0x06#8 else 0x00#8) ^^^
      (if k.val = 135 then 0x80#8 else 0x00#8)) ∧
    c.finalize.a = keccakF A := by
  refine ⟨rfl, (c.a.xorByte c.pos 0x06#8).xorByte 135 0x80#8, fun k => ?_, rfl⟩
  rw [Lanes.getByte_xorByte, Lanes.getByte_xorByte]
  rfl

/-- Settles O18: the completion of SHA3_FINAL, and its digest read in DIGEST, in LMEM and in STATE.  The finalised sponge
and its digest are generalised first: a comparison of states must not compute the permutation. -/
theorem sha3FinalWritesTheDigest : Obligations.Sha3FinalWritesTheDigest := by
  intro s hp hdst
  have hexec := exec_sha3Final hp hdst
  obtain ⟨hpos, hstate⟩ := s.sponge.finalize_spec
  generalize s.sponge.finalize = c at hexec hpos hstate ⊢
  have hlen := c.a.digest_length
  have hbytes := c.a.digest_getElem?
  have hwordBytes := wordsOf32_digest_byte c.a
  have hwords := wordsOf32_digest c.a
  have hread := fun hwf => Memory.read_writeDigest (m := s.lmem) hwf s.dstAddr.toNat c.a
  generalize c.a.digest = d at hexec hlen hbytes hwordBytes hwords hread ⊢
  exact ⟨_, hexec, rfl, hpos, hstate, hlen, hbytes, hwordBytes, hread, hwords⟩

/-! ## The stream (R115) -/

/-- A run over pieces has absorbed their concatenation, and is still in ABSORB. -/
theorem streamRun_absorbs {pieces : List (List Byte)} (h : streamRun s pieces t) (hp : s.phase = .absorb) :
    t.sponge = s.sponge.absorb pieces.flatten ∧ t.phase = .absorb := by
  induction pieces generalizing s with
  | nil =>
    obtain ⟨hsponge, hphase⟩ := h
    exact ⟨hsponge, hphase.trans hp⟩
  | cons m pieces ih =>
    obtain ⟨u, v, hsponge, hphase, hsrc, hm, hexec, hrest⟩ := h
    obtain rfl := Host.Outcome.next.inj ((exec_sha3Absorb (hphase.trans hp) hsrc).symm.trans hexec)
    obtain ⟨ht, htp⟩ := ih hrest (hphase.trans hp)
    refine ⟨?_, htp⟩
    rw [ht, State.completed_sponge, List.flatten_cons, Sponge.absorb_append, ← hm, ← hsponge]
    rfl

/-- Settles O52: SHA3_FINAL after a stream finalises what `sha3` of the concatenation finalises. -/
theorem streamingEqualsOneShot : Obligations.StreamingEqualsOneShot := by
  refine ⟨fun s0 s1 s2 pieces hinit hrun hdst => ?digest, fun i s t hk hi ha hf h => ?others⟩
  case digest =>
    obtain ⟨hfresh, hstart⟩ := sha3Init_starts hinit
    obtain ⟨hsponge, hphase⟩ := streamRun_absorbs hrun hstart
    have hexec := exec_sha3Final hphase hdst
    have hsha : s2.sponge.finalize.a.digest = sha3 pieces.flatten := by rw [hsponge, hfresh, sha3]
    rw [hsha] at hexec
    generalize sha3 pieces.flatten = d at hexec ⊢
    exact ⟨_, hexec, rfl, rfl, rfl⟩
  case others =>
    rcases exec_cases i s with ⟨e, -, heq⟩ | ⟨c, p, d, sd, sv, v, heq, -, -, hown, -⟩ <;>
      obtain rfl := Host.Outcome.next.inj (h.symm.trans heq)
    · exact ⟨rfl, rfl⟩
    · exact hown (by cases i <;> simp_all)

/-! ## Contexts of their own (R116) -/

/-- `s` with another architectural sponge, phase and digest. -/
def State.withStream (s : State) (c : Sponge) (p : Phase) (d : Vector Word 8) : State :=
  { s with sponge := c, phase := p, digest := d }

/-- The digest a command leaves when it found d: its own if it is a SHA3_256 that succeeded. -/
def digestAfter (i : Instr) (d : Vector Word 8) (t : State) : Vector Word 8 :=
  if i = .sha3Hash ∧ t.err = false then t.digest else d

/-- Two outcomes of a command agree but for the stream: whatever state `r` ends in, `r'` ends in it with c, p and the
digest found or written. -/
def AgreeButStream (i : Instr) (c : Sponge) (p : Phase) (d : Vector Word 8) (r r' : Result) : Prop :=
  ∀ t, r = .next t → r' = .next (t.withStream c p (digestAfter i d t))

namespace AgreeButStream

variable {i : Instr} {c : Sponge} {p : Phase} {d : Vector Word 8} {r r' : Result}

theorem raised (s : State) (e : ErrCode) : AgreeButStream i c p d (s.raise e) ((s.withStream c p d).raise e) := by
  rintro t ⟨⟩
  rw [digestAfter, if_neg (by simp)]
  rfl

/-- A check decides alike on both sides. -/
theorem check {e : ErrCode} {q : Prop} [Decidable q] (h : ¬ q → AgreeButStream i c p d r r') :
    AgreeButStream i c p d (if q then s.raise e else r) (if q then (s.withStream c p d).raise e else r') := by
  by_cases hq : q
  · rw [if_pos hq, if_pos hq]; exact raised s e
  · rw [if_neg hq, if_neg hq]; exact h hq

/-- A read of LMEM gives both sides the same bytes. -/
theorem memRead {q : Region} {k k' : List Byte → Result} (h : ∀ b, AgreeButStream i c p d (k b) (k' b)) :
    AgreeButStream i c p d (s.memRead q k) ((s.withStream c p d).memRead q k') := by
  by_cases hv : s.valid q
  · rw [State.memRead_of_valid hv, State.memRead_of_valid (s := s.withStream c p d) hv]; exact h _
  · rw [State.memRead, if_neg hv]
    rintro t ⟨⟩

/-- The last two moves of a command that stores v, when the digest left is the one found or the one written. -/
theorem stored {u : State} {d' : Vector Word 8} {a n : Nat} {v : List Byte}
    (hd : d' = if i = .sha3Hash then u.digest else d) :
    AgreeButStream i c p d (u.memWrite a v fun t => t.complete n)
      ((u.withStream c p d').memWrite a v fun t => t.complete n) := by
  subst hd
  by_cases hv : a + v.length ≤ u.memBytes
  · rw [State.memWrite_of_valid hv, State.memWrite_of_valid (s := u.withStream c p _) hv]
    rintro t ⟨⟩
    simp only [digestAfter, State.completed_err, and_true, State.completed_digest]
    rfl
  · rw [State.memWrite, if_neg hv]
    rintro t ⟨⟩

theorem exec {i : Instr} (hi : i = .sha3Hash ∨ i = .mgf1 ∨ i = .oaepEnc ∨ i = .oaepDec) (s : State) (c : Sponge)
    (p : Phase) (d : Vector Word 8) : AgreeButStream i c p d (exec i s) (exec i (s.withStream c p d)) := by
  rcases hi with rfl | rfl | rfl | rfl
  · exact check fun _ => check fun _ => check fun _ => memRead fun m =>
      stored (u := s.setDigest (sha3 m)) (d' := wordsOf32 (sha3 m)) rfl
  · exact check fun _ => check fun _ => check fun _ => memRead fun z => stored (u := s) rfl
  · exact check fun _ => check fun _ => check fun _ => check fun _ => check fun _ => memRead fun m =>
      stored (u := s.consumeSeed) rfl
  · refine check fun _ => check fun _ => check fun _ => check fun _ => memRead fun em => ?_
    simp only [show (s.withStream c p d).kLen = s.kLen from rfl]
    cases oaepDecode em s.kLen.toNat with
    | error e => exact check fun _ => raised s e
    | ok m => exact stored (u := s) rfl

end AgreeButStream

/-- Of these four commands only a SHA3_256 that succeeds writes A, POS, PHASE or DIGEST. -/
theorem ownContext_keepsStream {i : Instr} (hi : i = .sha3Hash ∨ i = .mgf1 ∨ i = .oaepEnc ∨ i = .oaepDec)
    (h : exec i s = .next t) :
    t.sponge = s.sponge ∧ t.phase = s.phase ∧ (¬ (i = .sha3Hash ∧ t.err = false) → t.digest = s.digest) := by
  rcases exec_cases i s with ⟨e, -, heq⟩ | ⟨c, p, d, sd, sv, v, heq, -, -, hown, hd, -⟩ <;>
    obtain rfl := Host.Outcome.next.inj (h.symm.trans heq)
  · exact ⟨rfl, rfl, fun _ => rfl⟩
  · obtain ⟨rfl, rfl⟩ := hown (by tauto)
    exact ⟨rfl, rfl, fun hkeep => hd (by rintro rfl; simp at hi) fun hhash => hkeep ⟨hhash, rfl⟩⟩

/-- Settles O28: the four commands keep the stream, and answer alike over any other. -/
theorem privateContextsLeaveTheStreamAlone : Obligations.PrivateContextsLeaveTheStreamAlone := by
  intro i s t c p d hi h
  obtain ⟨hsponge, hphase, hdigest⟩ := ownContext_keepsStream hi h
  exact ⟨hsponge, hphase, hdigest, AgreeButStream.exec hi s c p d t h⟩

end Sys2Proof.Machine
end

section
/-! SUPPORT. MGF1 byte by byte, and its command (R140 to R142). -/

namespace Sys2Proof.Machine

/-- Byte j of a concatenation of strings of n bytes each is byte j mod n of string j div n. -/
theorem getElem?_flatMap_range {f : Nat → List Byte} {n : Nat} (hf : ∀ i, (f i).length = n) {c j : Nat}
    (hj : j < n * c) : ((List.range c).flatMap f)[j]? = (f (j / n))[j % n]? := by
  induction c with
  | zero => simp at hj
  | succ c ih =>
    have hlen : ((List.range c).flatMap f).length = n * c := by simp [List.length_flatMap, hf, Nat.mul_comm]
    rw [List.range_succ, List.flatMap_append, List.flatMap_singleton]
    by_cases hlast : j < n * c
    · rw [List.getElem?_append_left (hlen ▸ hlast), ih hlast]
    · have hdiv : j / n = c := Nat.div_eq_of_lt_le (by rw [Nat.mul_comm]; omega) (by rw [Nat.mul_comm]; exact hj)
      rw [List.getElem?_append_right (by omega), hlen, hdiv, Nat.mod_def, hdiv]

/-- Byte j of a mask (R140). -/
theorem mgf1_getElem? (z : List Byte) {n j : Nat} (hj : j < n) :
    (mgf1 z n)[j]? = (sha3 (z ++ be32 (j / 32)))[j % 32]? := by
  rw [mgf1, List.getElem?_take_of_lt hj]
  exact getElem?_flatMap_range (fun i => sha3_length (z ++ be32 i)) (by omega)

/-- A mask is a prefix of every longer one: its bytes do not depend on its length. -/
theorem mgf1_eq_take (z : List Byte) {n n' : Nat} (h : n ≤ n') : mgf1 z n = (mgf1 z n').take n := by
  refine List.ext_getElem? fun j => ?_
  by_cases hj : j < n
  · rw [List.getElem?_take_of_lt hj, mgf1_getElem? z hj, mgf1_getElem? z (by omega)]
  · rw [List.getElem?_eq_none (by simp; omega), List.getElem?_eq_none (by simp; omega)]

/-- The four bytes of a counter, most significant first (R10). -/
theorem be32_toNat {i : Nat} (hi : i < 2 ^ 32) :
    (be32 i).map (·.toNat) = [i / 2 ^ 24, i / 2 ^ 16 % 256, i / 2 ^ 8 % 256, i % 256] := by
  simp only [be32, bitsOf, List.map_cons, List.map_nil, BitVec.toNat_ofNat, List.cons.injEq, and_true]
  omega

/-- Settles O53: the bytes of a mask one by one, and those of its counter. -/
theorem mgf1ConcatenatesCounterDigests : Obligations.Mgf1ConcatenatesCounterDigests :=
  ⟨fun z n => ⟨mgf1_length z n, fun _ hj => mgf1_getElem? z hj, fun _ h => mgf1_eq_take z h⟩, fun _ hi => be32_toNat hi⟩

/-- A completion whose count is a register's value returns that register in RESULT_LEN (R194). -/
theorem State.completed_toNat (s : State) (w : Word) :
    s.completed w.toNat =
      { s with resultLen := w, inFlight := none, done := true, err := false, errCode := .ok } := by
  rw [State.completed, BitVec.ofNat_toNat, BitVec.setWidth_eq]
  rfl

/-- Settles O20: with every check passed MGF1 stores the mask of its source. -/
theorem mgf1WritesTheMask : Obligations.Mgf1WritesTheMask := by
  intro s hsrc hdst hover
  rw [exec, execMgf1, if_neg (not_not.2 hsrc), if_neg (not_not.2 hdst), if_neg hover, State.memRead_of_valid hsrc,
    State.memWrite_of_valid (by rw [mgf1_length]; exact hdst), State.complete, State.completed_toNat, State.src]

end Sys2Proof.Machine
end

section
/-! SUPPORT. OAEP: the layout of a block, the separator scan, the round trip, and the two commands (R145 to R152). -/

namespace Sys2Proof.Machine

/-! ## The decoder and the first byte (R147, R148) -/

theorem oaepRecoverDb_cons (b c : Byte) (em : List Byte) (k : Nat) :
    oaepRecoverDb (b :: em) k = oaepRecoverDb (c :: em) k := rfl

/-- Settles O55: the recovered DB does not depend on the first byte. -/
theorem decoderIgnoresTheFirstByte : Obligations.DecoderIgnoresTheFirstByte := by
  intro b c em k
  rw [oaepDecode, oaepRecoverDb_cons b c]
  rfl

/-- Settles O54: the block is 0x00, the masked seed of 32 bytes, and the masked DB. -/
theorem encodedBlockLayout : Obligations.EncodedBlockLayout := by
  intro m seed k hm hs
  have hseed : (xorBytes seed (mgf1 (xorBytes (oaepDb m k) (mgf1 seed (k - 33))) 32)).length = 32 := by simp [hs]
  refine ⟨oaepEncode_length hm hs, rfl, ?maskedSeed, ?maskedDb, fun b => decoderIgnoresTheFirstByte b 0x00#8 _ k⟩
  case maskedSeed => rw [oaepEncode_eq, List.drop_one, List.tail_cons, List.take_left' hseed]
  case maskedDb => rw [oaepEncode_eq, List.drop_succ_cons, List.drop_left' hseed]

/-! ## The separator scan (R148, R149) -/

/-- The scan skips zero bytes. -/
@[simp] theorem oaepUnpad_zeros_append (n : Nat) (t : List Byte) : oaepUnpad (zeros n ++ t) = oaepUnpad t := by
  have hskip : (zeros n ++ t).dropWhile (· = 0#8) = t.dropWhile (· = 0#8) :=
    List.dropWhile_append_of_pos fun b hb => by simpa using List.eq_of_mem_replicate hb
  rw [oaepUnpad, hskip]
  rfl

/-- The first byte that is not zero decides. -/
theorem oaepUnpad_cons_of_ne {b : Byte} (hb : b ≠ 0#8) (rest : List Byte) :
    oaepUnpad (b :: rest) = if b = 0x01#8 then .ok rest else .error .badSeparator := by
  rw [oaepUnpad, List.dropWhile_cons_of_neg (by simpa using hb)]

theorem oaepUnpad_of_all_zero {t : List Byte} (h : ∀ b ∈ t, b = 0#8) : oaepUnpad t = .error .noSeparator := by
  rw [oaepUnpad, List.dropWhile_eq_nil_iff.2 (by simpa using h)]

/-- A byte string is all zero, or zeros and then a byte that is not. -/
theorem all_zero_or_eq_zeros_append (t : List Byte) :
    (∀ b ∈ t, b = 0#8) ∨ ∃ n b rest, t = zeros n ++ b :: rest ∧ b ≠ 0#8 := by
  induction t with
  | nil => simp
  | cons b t ih =>
    by_cases hb : b = 0#8
    · obtain hzero | ⟨n, c, rest, rfl, hc⟩ := ih
      · exact .inl (by simpa [hb] using hzero)
      · exact .inr ⟨n + 1, c, rest, by rw [hb]; rfl, hc⟩
    · exact .inr ⟨0, b, t, rfl, hb⟩

/-- Everything the scan can answer, and on which strings. -/
theorem oaepUnpad_cases (t : List Byte) :
    ((∀ b ∈ t, b = 0#8) ∧ oaepUnpad t = .error .noSeparator) ∨
    (∃ n m, t = zeros n ++ 0x01#8 :: m ∧ oaepUnpad t = .ok m) ∨
    ∃ n b rest, t = zeros n ++ b :: rest ∧ b ≠ 0#8 ∧ b ≠ 0x01#8 ∧ oaepUnpad t = .error .badSeparator := by
  obtain hzero | ⟨n, b, rest, rfl, hb⟩ := all_zero_or_eq_zeros_append t
  · exact .inl ⟨hzero, oaepUnpad_of_all_zero hzero⟩
  · rw [oaepUnpad_zeros_append, oaepUnpad_cons_of_ne hb]
    by_cases h1 : b = 0x01#8
    · exact .inr (.inl ⟨n, rest, by rw [h1], if_pos h1⟩)
    · exact .inr (.inr ⟨n, b, rest, rfl, hb, h1, if_neg h1⟩)

theorem oaepUnpad_eq_noSeparator_iff (t : List Byte) :
    oaepUnpad t = .error .noSeparator ↔ ∀ b ∈ t, b = 0#8 := by
  refine ⟨fun h => ?_, oaepUnpad_of_all_zero⟩
  obtain ⟨hzero, -⟩ | ⟨n, m, -, heq⟩ | ⟨n, b, rest, -, -, -, heq⟩ := oaepUnpad_cases t
  · exact hzero
  · simp [heq] at h
  · simp [heq] at h

theorem oaepUnpad_eq_badSeparator_iff (t : List Byte) :
    oaepUnpad t = .error .badSeparator ↔ ∃ n b rest, t = zeros n ++ b :: rest ∧ b ≠ 0#8 ∧ b ≠ 0x01#8 := by
  constructor
  · intro h
    obtain ⟨-, heq⟩ | ⟨n, m, -, heq⟩ | ⟨n, b, rest, ht, h0, h1, -⟩ := oaepUnpad_cases t
    · simp [heq] at h
    · simp [heq] at h
    · exact ⟨n, b, rest, ht, h0, h1⟩
  · rintro ⟨n, b, rest, rfl, h0, h1⟩
    rw [oaepUnpad_zeros_append, oaepUnpad_cons_of_ne h0, if_neg h1]

theorem oaepUnpad_zeros_separator (n : Nat) (m : List Byte) : oaepUnpad (zeros n ++ 0x01#8 :: m) = .ok m := by
  rw [oaepUnpad_zeros_append, oaepUnpad_cons_of_ne (by decide), if_pos rfl]

theorem oaepUnpad_eq_ok_iff (t m : List Byte) : oaepUnpad t = .ok m ↔ ∃ n, t = zeros n ++ 0x01#8 :: m := by
  constructor
  · intro h
    obtain ⟨-, heq⟩ | ⟨n, m', ht, heq⟩ | ⟨n, b, rest, -, -, -, heq⟩ := oaepUnpad_cases t
    · simp [heq] at h
    · obtain rfl := Except.ok.inj (heq.symm.trans h)
      exact ⟨n, ht⟩
    · simp [heq] at h
  · rintro ⟨n, rfl⟩
    exact oaepUnpad_zeros_separator n m

theorem oaepDecode_of_label_ne {em : List Byte} {k : Nat} (h : (oaepRecoverDb em k).take 32 ≠ lHash) :
    oaepDecode em k = .error .labelMismatch := if_pos h

theorem oaepDecode_of_label {em : List Byte} {k : Nat} (h : (oaepRecoverDb em k).take 32 = lHash) :
    oaepDecode em k = oaepUnpad ((oaepRecoverDb em k).drop 32) := if_neg (not_not.2 h)

/-- A block of k bytes has a DB of k − 33 (R148). -/
theorem oaepRecoverDb_length {em : List Byte} {k : Nat} (h : em.length = k) : (oaepRecoverDb em k).length = k - 33 := by
  simp [oaepRecoverDb, h]

/-- Settles O56: the label check, then the scan by the first byte that is not zero. -/
theorem separatorScanOutcomes : Obligations.SeparatorScanOutcomes := by
  refine ⟨fun em k => ⟨oaepDecode_of_label_ne, oaepDecode_of_label, fun hl hk => ?tail⟩, fun t =>
    ⟨oaepUnpad_eq_noSeparator_iff t, oaepUnpad_eq_badSeparator_iff t, oaepUnpad_eq_ok_iff t, fun b ht => ?oneByte⟩⟩
  case tail => rw [List.length_drop, oaepRecoverDb_length (hl.trans hk.symm), hk]
  case oneByte =>
    subst ht
    refine ⟨fun h1 => ?_, fun h0 => ?_, fun h1 h0 => ?_⟩
    · rw [h1]; exact oaepUnpad_zeros_separator 0 []
    · exact oaepUnpad_of_all_zero (by simpa using h0)
    · rw [oaepUnpad_cons_of_ne h0, if_neg h1]

/-! ## The round trip (R152) -/

/-- The decoder recovers the DB that the encoder built. -/
theorem oaepRecoverDb_oaepEncode {m seed : List Byte} {k : Nat} (hm : m.length + 66 ≤ k) (hs : seed.length = 32) :
    oaepRecoverDb (oaepEncode m k seed) k = oaepDb m k := oaepRecoverDb_masked (oaepDb_length hm) hs

theorem oaepDb_eq (m : List Byte) (k : Nat) :
    oaepDb m k = lHash ++ (zeros (k - m.length - 66) ++ 0x01#8 :: m) := by
  simp [oaepDb]

/-- Settles O57: the recovered DB starts with the label, and its tail is zeros, the separator and the message. -/
theorem oaepRoundTrip : Obligations.OaepRoundTrip := by
  intro m seed k hm hs
  have hdb : oaepRecoverDb (oaepEncode m k seed) k = lHash ++ (zeros (k - m.length - 66) ++ 0x01#8 :: m) :=
    (oaepRecoverDb_oaepEncode hm hs).trans (oaepDb_eq m k)
  rw [oaepDecode_of_label (by rw [hdb, List.take_left' lHash_length]), hdb, List.drop_left' lHash_length,
    oaepUnpad_zeros_separator]

/-! ## OAEP_ENC and OAEP_DEC (R150, R151) -/

/-- Settles O21: with every check passed OAEP_ENC stores the block and consumes the seed. -/
theorem oaepEncWritesTheBlock : Obligations.OaepEncWritesTheBlock := by
  intro s hfits hseed hsrc hdst hover
  have hlen : (oaepEncode (s.lmem.readBytes s.src.addr s.src.len) s.kLen.toNat s.seedBytes).length = s.kLen.toNat :=
    oaepEncode_length (by rw [Memory.readBytes_length]; exact hfits) (bytesOfWords_length s.seed)
  rw [exec, execOaepEnc, if_neg (by omega), if_neg (not_not.2 hseed), if_neg (not_not.2 hsrc), if_neg (not_not.2 hdst),
    if_neg hover, State.memRead_of_valid hsrc, State.memWrite_of_valid (by rw [hlen]; exact hdst), State.complete,
    State.completed_toNat, State.src]
  rfl

/-- Settles O22: with every check passed OAEP_DEC stores the message that its block decodes to, which fits in the
destination that was checked. -/
theorem oaepDecWritesTheMessage : Obligations.OaepDecWritesTheMessage := by
  intro s m hk hsrc hdst hover hm
  have hlen : m.length ≤ s.kLen.toNat - 66 := oaepDecode_length hm
  have hstore : s.dstAddr.toNat + m.length ≤ s.memBytes := (Nat.add_le_add_left hlen _).trans hdst
  refine ⟨hlen, ?_⟩
  rw [exec, execOaepDec, Config.oaepMinK, if_neg (not_lt.2 hk), if_neg (not_not.2 hsrc), if_neg (not_not.2 hdst),
    if_neg hover, State.memRead_of_valid hsrc, State.srcBlock, hm]
  exact State.memWrite_of_valid hstore _

end Sys2Proof.Machine
end

section
/-! SUPPORT. Base64: the alphabet, the padding and the scan of a text, its groups and quads as 24 bits, the round trip,
and the two commands (R170 to R177). -/

namespace Sys2Proof.Machine

/-! ## The alphabet (R170) -/

theorem b64Val_b64Chr {v : Nat} (hv : v < 64) : b64Val (b64Chr v) = some v := by
  revert v
  decide

/-- The only byte with the value v is the character of v: the 256 bytes one by one. -/
theorem b64Chr_b64Val {c : Byte} {v : Nat} (h : b64Val c = some v) : v < 64 ∧ b64Chr v = c := by
  revert c v
  decide

theorem b64Val_eq_some_iff {c : Byte} {v : Nat} : b64Val c = some v ↔ v < 64 ∧ b64Chr v = c :=
  ⟨b64Chr_b64Val, fun ⟨hv, hc⟩ => hc ▸ b64Val_b64Chr hv⟩

theorem ne_padChar_of_isSome {c : Byte} (h : (b64Val c).isSome) : c ≠ b64PadChar := by
  rintro rfl
  exact absurd h (by decide)

/-! ## The pad count and the scan (R173) -/

/-- The pad count is the number of trailing pad characters, at most two of them (R173 item 2). -/
theorem b64PadCount_eq (s : List Byte) :
    b64PadCount s = if s.length < 4 then 0 else min 2 (s.reverse.takeWhile (· = b64PadChar)).length := by
  by_cases hlen : s.length < 4
  · simp [b64PadCount, hlen, not_le.2 hlen]
  · obtain ⟨r, rfl⟩ : ∃ r, s = r.reverse := ⟨s.reverse, s.reverse_reverse.symm⟩
    match r, hlen with
    | [], hlen | [_], hlen => simp at hlen
    | a :: b :: r, hlen =>
      -- the count is decided by the last two characters, a and b
      by_cases ha : a = b64PadChar <;> by_cases hb : b = b64PadChar <;> simp_all [b64PadCount]

/-- The scan reports the first character before the padding that is not in the alphabet (R173 item 3). -/
theorem b64Scan_eq_map_find? (s : List Byte) :
    b64Scan s = ((s.take (s.length - b64PadCount s)).find? fun c => (b64Val c).isNone).map
      fun c => if c = b64PadChar then .b64Pad else .b64Char := by
  unfold b64Scan
  split <;> simp [*]

theorem b64Scan_eq_none_iff {s : List Byte} :
    b64Scan s = none ↔ ∀ c ∈ s.take (s.length - b64PadCount s), (b64Val c).isSome := by
  simp [b64Scan_eq_map_find?, Option.isSome_iff_ne_none]

theorem b64Scan_eq_some_iff {s : List Byte} {e : ErrCode} :
    b64Scan s = some e ↔
      ∃ i c, i < s.length - b64PadCount s ∧ s[i]? = some c ∧ b64Val c = none ∧
        (∀ j d, j < i → s[j]? = some d → (b64Val d).isSome) ∧
        e = if c = b64PadChar then .b64Pad else .b64Char := by
  simp only [b64Scan_eq_map_find?, Option.map_eq_some_iff, List.find?_eq_some_iff_getElem, List.getElem_take,
    List.length_take, Option.isNone_iff_eq_none]
  constructor
  · rintro ⟨c, ⟨hc, i, hi, rfl, hbefore⟩, rfl⟩
    refine ⟨i, s[i], by omega, List.getElem?_eq_getElem _, hc, fun j d hj hd => ?_, rfl⟩
    obtain ⟨_, rfl⟩ := List.getElem?_eq_some_iff.1 hd
    simpa using hbefore j hj
  · rintro ⟨i, c, hi, hc, hnone, hbefore, rfl⟩
    obtain ⟨_, rfl⟩ := List.getElem?_eq_some_iff.1 hc
    refine ⟨_, ⟨hnone, i, by omega, rfl, fun j hj => ?_⟩, rfl⟩
    simpa using hbefore j s[j] hj (List.getElem?_eq_getElem _)

/-- Settles O59: the count read off the end of the text, and the scan's two answers. -/
theorem firstBadCharacterDecides : Obligations.FirstBadCharacterDecides := fun s =>
  ⟨b64PadCount_eq s, b64Scan_eq_none_iff, fun _ => b64Scan_eq_some_iff⟩

/-! ## A group and a quad as 24 bits (R171, R174) -/

theorem bitsOf_toNat {w : Nat} (v : BitVec w) (hi lo : Nat) :
    bitsOf v.toNat hi lo = (v.extractLsb' lo (hi - lo + 1)).toNat := by
  rw [BitVec.extractLsb'_toNat, Nat.shiftRight_eq_div_pow, bitsOf]

theorem toNat_append_eq_add {m n : Nat} (x : BitVec m) (y : BitVec n) : (x ++ y).toNat = x.toNat * 2 ^ n + y.toNat := by
  rw [BitVec.toNat_append, ← Nat.shiftLeft_add_eq_or_of_lt y.isLt, Nat.shiftLeft_eq]

/-- The 24 bits of a group of up to three bytes, missing bytes as 0 (R171). -/
def groupBits (t : List Byte) : BitVec 24 := t.getD 0 0 ++ t.getD 1 0 ++ t.getD 2 0

/-- The character of six bits (R170). -/
def sextetChr (u : BitVec 6) : Byte := b64Chr u.toNat

theorem b64Group_eq (t : List Byte) :
    b64Group t =
      [sextetChr ((groupBits t).extractLsb' 18 6), sextetChr ((groupBits t).extractLsb' 12 6),
        if 2 ≤ t.length then sextetChr ((groupBits t).extractLsb' 6 6) else b64PadChar,
        if t.length = 3 then sextetChr ((groupBits t).extractLsb' 0 6) else b64PadChar] := by
  have hv : (t.getD 0 0).toNat * 2 ^ 16 + (t.getD 1 0).toNat * 2 ^ 8 + (t.getD 2 0).toNat = (groupBits t).toNat := by
    rw [groupBits, toNat_append_eq_add, toNat_append_eq_add]
    ring
  simp only [b64Group, hv, bitsOf_toNat, sextetChr]

theorem groupBits_bytes (t : List Byte) :
    [(groupBits t).extractLsb' 16 8, (groupBits t).extractLsb' 8 8, (groupBits t).extractLsb' 0 8] =
      [t.getD 0 0, t.getD 1 0, t.getD 2 0] := by
  rw [groupBits, BitVec.extractLsb'_append_eq_of_le (by decide), BitVec.extractLsb'_append_eq_left,
    BitVec.extractLsb'_append_eq_of_le (by decide), BitVec.extractLsb'_append_eq_right,
    BitVec.extractLsb'_append_eq_right]

/-- The six bits of a character, 0 for `=` (R174). -/
def sextet (c : Byte) : BitVec 6 := BitVec.ofNat 6 (b64Weight c)

@[simp] theorem sextet_padChar : sextet b64PadChar = 0#6 := rfl

@[simp] theorem sextet_sextetChr (u : BitVec 6) : sextet (sextetChr u) = u := by
  rw [sextet, sextetChr, b64Weight, b64Val_b64Chr u.isLt, Option.getD_some, BitVec.ofNat_toNat, BitVec.setWidth_eq]

/-- The 24 bits of a quad, most significant first (R174). -/
def quadBits (c0 c1 c2 c3 : Byte) : BitVec 24 := sextet c0 ++ sextet c1 ++ sextet c2 ++ sextet c3

theorem b64Weight_lt (c : Byte) : b64Weight c < 64 := by
  cases h : b64Val c with
  | none => simp [b64Weight, h]
  | some v => simpa [b64Weight, h] using (b64Chr_b64Val h).1

theorem sextet_toNat (c : Byte) : (sextet c).toNat = b64Weight c := by
  rw [sextet, BitVec.toNat_ofNat, Nat.mod_eq_of_lt (b64Weight_lt c)]

theorem b64Quad_eq (c0 c1 c2 c3 : Byte) :
    b64Quad c0 c1 c2 c3 =
      [(quadBits c0 c1 c2 c3).extractLsb' 16 8, (quadBits c0 c1 c2 c3).extractLsb' 8 8,
        (quadBits c0 c1 c2 c3).extractLsb' 0 8] := by
  have hv : b64Weight c0 * 2 ^ 18 + b64Weight c1 * 2 ^ 12 + b64Weight c2 * 2 ^ 6 + b64Weight c3 =
      (quadBits c0 c1 c2 c3).toNat := by
    simp only [quadBits, toNat_append_eq_add, sextet_toNat]
    ring
  simp only [b64Quad, hv, bitsOf_toNat, BitVec.ofNat_toNat, BitVec.setWidth_eq]

theorem groupBits_one (x : Byte) : groupBits [x] = x ++ 0#16 :=
  BitVec.append_assoc (x₁ := x) (x₂ := 0#8) (x₃ := 0#8)

theorem groupBits_two (x y : Byte) : groupBits [x, y] = x ++ y ++ 0#8 := rfl

/-- The bits of a low part filled with zeros are zero. -/
theorem extractLsb'_append_zero {m n lo len : Nat} (x : BitVec m) (h : lo + len ≤ n) :
    (x ++ 0#n).extractLsb' lo len = 0#len := by
  rw [BitVec.extractLsb'_append_eq_of_add_le h, BitVec.extractLsb'_zero]

/-- The characters of a group carry its 24 bits, a pad character standing for six of the zeros filled in (R171). -/
theorem map_sextet_b64Group {t : List Byte} (ht : t.length ≤ 3) :
    (b64Group t).map sextet =
      [(groupBits t).extractLsb' 18 6, (groupBits t).extractLsb' 12 6, (groupBits t).extractLsb' 6 6,
        (groupBits t).extractLsb' 0 6] := by
  rw [b64Group_eq]
  match t, ht with
  | [], _ => rfl
  | [x], _ =>
    have h6 : (groupBits [x]).extractLsb' 6 6 = 0#6 := by
      rw [groupBits_one, extractLsb'_append_zero x (by decide)]
    have h0 : (groupBits [x]).extractLsb' 0 6 = 0#6 := by
      rw [groupBits_one, extractLsb'_append_zero x (by decide)]
    simp [h0, h6]
  | [x, y], _ =>
    have h0 : (groupBits [x, y]).extractLsb' 0 6 = 0#6 := by
      rw [groupBits_two, extractLsb'_append_zero (x ++ y) (by decide)]
    simp [h0]
  | [x, y, z], _ => simp

/-! ## The text (R171, R172) -/

theorem isSome_b64Val_sextetChr (u : BitVec 6) : (b64Val (sextetChr u)).isSome := by
  rw [sextetChr, b64Val_b64Chr u.isLt, Option.isSome_some]

/-- How many pad characters the text of n bytes ends with (R172). -/
def b64PadLen (n : Nat) : Nat := (3 - n % 3) % 3

theorem b64PadLen_add_three (n : Nat) : b64PadLen (n + 3) = b64PadLen n := by
  rw [b64PadLen, Nat.add_mod_right, b64PadLen]

/-- A text is characters of the alphabet, then the pad characters that its length asks for (R172). -/
theorem b64Encode_eq_append_padding (b : List Byte) :
    ∃ t, b64Encode b = t ++ List.replicate (b64PadLen b.length) b64PadChar ∧ ∀ c ∈ t, (b64Val c).isSome := by
  induction b using b64Encode.induct with
  | case1 => exact ⟨[], rfl, by simp⟩
  | case2 x =>
    refine ⟨(b64Group [x]).take 2, rfl, ?_⟩
    simp [b64Group_eq, isSome_b64Val_sextetChr]
  | case3 x y =>
    refine ⟨(b64Group [x, y]).take 3, rfl, ?_⟩
    simp [b64Group_eq, isSome_b64Val_sextetChr]
  | case4 x y z rest ih =>
    obtain ⟨t, ht, halpha⟩ := ih
    have hgroup : ∀ c ∈ b64Group [x, y, z], (b64Val c).isSome := by
      simp [b64Group_eq, isSome_b64Val_sextetChr]
    have hpad : b64PadLen (x :: y :: z :: rest).length = b64PadLen rest.length := b64PadLen_add_three rest.length
    exact ⟨b64Group [x, y, z] ++ t, by rw [b64Encode, ht, hpad, List.append_assoc],
      List.forall_mem_append.2 ⟨hgroup, halpha⟩⟩

theorem b64Encode_trailing_padding (b : List Byte) :
    ((b64Encode b).reverse.takeWhile (· = b64PadChar)).length = b64PadLen b.length := by
  obtain ⟨t, ht, halpha⟩ := b64Encode_eq_append_padding b
  have hstop : t.reverse.takeWhile (· = b64PadChar) = [] := by
    rw [List.takeWhile_eq_nil_iff]
    intro h
    simpa using ne_padChar_of_isSome (halpha _ (List.mem_reverse.1 (t.reverse.get_mem ⟨0, h⟩)))
  rw [ht, List.reverse_append, List.reverse_replicate, List.takeWhile_append_of_pos (by simp), hstop,
    List.append_nil, List.length_replicate]

theorem b64PadCount_b64Encode (b : List Byte) : b64PadCount (b64Encode b) = b64PadLen b.length := by
  rw [b64PadCount_eq, b64Encode_trailing_padding, b64Encode_length, b64TextLen, b64PadLen]
  split_ifs <;> omega

theorem b64Encode_length_mod (b : List Byte) : (b64Encode b).length % 4 = 0 := by
  rw [b64Encode_length, b64TextLen, Nat.mul_mod_right]

/-- Settles O58: the alphabet by computation, each group from its 24 bits, and a text from its padding. -/
theorem encodedTextLengthAndPadding : Obligations.EncodedTextLengthAndPadding := by
  refine ⟨⟨by decide, fun c v => b64Val_eq_some_iff, rfl, rfl⟩, ⟨rfl, ?one, ?two, ?three⟩, fun b =>
    ⟨b64Encode_length b, b64Encode_length_mod b, b64PadCount_b64Encode b, b64Encode_trailing_padding b⟩⟩
  case one =>
    rintro x _ rfl
    rw [← groupBits_one]
    exact b64Group_eq [x]
  case two =>
    rintro x y _ rfl
    exact b64Group_eq [x, y]
  case three =>
    rintro x y z rest _ rfl
    exact congrArg (· ++ b64Encode rest) (b64Group_eq [x, y, z])

/-! ## The round trip (R174, R175) -/

theorem append_sextets (v : BitVec 24) :
    v.extractLsb' 18 6 ++ v.extractLsb' 12 6 ++ v.extractLsb' 6 6 ++ v.extractLsb' 0 6 = v := by
  apply BitVec.eq_of_toNat_eq
  simp only [toNat_append_eq_add, BitVec.extractLsb'_toNat, Nat.shiftRight_eq_div_pow]
  omega

/-- A quad whose characters carry the bits of a group decodes to that group, missing bytes as 0. -/
theorem b64Quads_b64Group_append {t : List Byte} (ht : t.length ≤ 3) (rest : List Byte) :
    b64Quads (b64Group t ++ rest) = [t.getD 0 0, t.getD 1 0, t.getD 2 0] ++ b64Quads rest := by
  obtain ⟨c0, c1, c2, c3, hc⟩ : ∃ c0 c1 c2 c3, b64Group t = [c0, c1, c2, c3] := ⟨_, _, _, _, rfl⟩
  have hbits := map_sextet_b64Group ht
  rw [hc] at hbits
  simp only [List.map_cons, List.map_nil, List.cons.injEq, and_true] at hbits
  obtain ⟨h0, h1, h2, h3⟩ := hbits
  have hquad : quadBits c0 c1 c2 c3 = groupBits t := by
    rw [quadBits, h0, h1, h2, h3, append_sextets]
  rw [hc]
  change b64Quad c0 c1 c2 c3 ++ b64Quads rest = _
  rw [b64Quad_eq, hquad, groupBits_bytes]

theorem b64Quads_b64Encode (b : List Byte) : b64Quads (b64Encode b) = b ++ zeros (b64PadLen b.length) := by
  induction b using b64Encode.induct with
  | case1 => rfl
  | case2 x => exact b64Quads_b64Group_append (t := [x]) (by simp) []
  | case3 x y => exact b64Quads_b64Group_append (t := [x, y]) (by simp) []
  | case4 x y z rest ih =>
    have hpad : b64PadLen (x :: y :: z :: rest).length = b64PadLen rest.length := b64PadLen_add_three rest.length
    rw [b64Encode, b64Quads_b64Group_append (by simp), ih, hpad]
    rfl

theorem b64DecodedLen_b64Encode (b : List Byte) : b64DecodedLen (b64Encode b) = b.length := by
  rw [b64DecodedLen, b64PadCount_b64Encode, b64Encode_length, b64TextLen, b64PadLen]
  omega

theorem b64Decode_b64Encode (b : List Byte) : b64Decode (b64Encode b) = b := by
  rw [b64Decode, b64DecodedLen_b64Encode, b64Quads_b64Encode, List.take_left]

theorem b64Scan_b64Encode (b : List Byte) : b64Scan (b64Encode b) = none := by
  obtain ⟨t, ht, halpha⟩ := b64Encode_eq_append_padding b
  rw [b64Scan_eq_none_iff, b64PadCount_b64Encode, ht, List.length_append, List.length_replicate, Nat.add_sub_cancel,
    List.take_left]
  exact halpha

/-- Byte i of the decoded quads is byte i mod 3 of the bits of quad i / 3 (R174). -/
theorem b64Quads_getElem? {s : List Byte} {i : Nat} {c0 c1 c2 c3 : Byte} (h0 : s[4 * (i / 3)]? = some c0)
    (h1 : s[4 * (i / 3) + 1]? = some c1) (h2 : s[4 * (i / 3) + 2]? = some c2) (h3 : s[4 * (i / 3) + 3]? = some c3) :
    (b64Quads s)[i]? = some ((quadBits c0 c1 c2 c3).extractLsb' (16 - 8 * (i % 3)) 8) := by
  induction s using b64Quads.induct generalizing i with
  | case1 d0 d1 d2 d3 rest ih =>
    rw [b64Quads]
    by_cases hi : i < 3
    · rw [Nat.div_eq_of_lt hi] at h0 h1 h2 h3
      obtain ⟨rfl, rfl, rfl, rfl⟩ : d0 = c0 ∧ d1 = c1 ∧ d2 = c2 ∧ d3 = c3 := by simp_all
      rw [List.getElem?_append_left hi, b64Quad_eq]
      interval_cases i <;> rfl
    · obtain ⟨j, rfl⟩ : ∃ j, i = j + 3 := ⟨i - 3, by omega⟩
      have hdiv : 4 * ((j + 3) / 3) = 4 * (j / 3) + 4 := by omega
      rw [hdiv] at h0 h1 h2 h3
      rw [List.getElem?_append_right (by simp), Nat.add_mod_right]
      exact ih h0 h1 h2 h3
  | case2 s hshort =>
    match s, hshort with
    | [], _ | [_], _ | [_, _], _ | [_, _, _], _ => simp at h3
    | d0 :: d1 :: d2 :: d3 :: rest, hshort => exact absurd rfl (hshort d0 d1 d2 d3 rest)

/-- Settles O60: decoding quad by quad, and the text of any bytes decoded; `QR==` by computation. -/
theorem base64RoundTrip : Obligations.Base64RoundTrip := by
  refine ⟨fun s hlen _ => ⟨b64Decode_length hlen, ?_⟩,
    fun b => ⟨b64Encode_length_mod b, b64Scan_b64Encode b, b64Decode_b64Encode b⟩,
    by decide, by decide, by decide⟩
  rintro i c0 c1 c2 c3 _ hi h0 h1 h2 h3 rfl
  rw [b64Decode, b64DecodedLen, List.getElem?_take_of_lt hi]
  exact b64Quads_getElem? h0 h1 h2 h3

/-! ## B64_ENC and B64_DEC (R176, R177) -/

/-- Settles O23: with every check passed B64_ENC stores the text of its source. -/
theorem b64EncWritesTheText : Obligations.B64EncWritesTheText := by
  intro s hsrc hdst hover
  change s.valid (s.dst (b64TextLen s.srcLen.toNat)) at hdst
  change ¬ s.src.overlaps (s.dst (b64TextLen s.srcLen.toNat)) at hover
  rw [exec, execB64Enc, if_neg (not_not.2 hsrc), if_neg (not_not.2 hdst), if_neg hover, State.memRead_of_valid hsrc,
    State.memWrite_of_valid (by rw [b64Encode_length, Memory.readBytes_length]; exact hdst)]
  rfl

/-- Settles O24: with every check passed B64_DEC stores the bytes of its text. -/
theorem b64DecWritesTheBytes : Obligations.B64DecWritesTheBytes := by
  intro s text htext hmod hsrc hdst hover hscan
  change text = s.lmem.readBytes s.src.addr s.src.len at htext
  have htextLen : text.length = s.srcLen.toNat := by
    rw [htext, Memory.readBytes_length, State.src]
  rw [← htextLen] at hmod hdst hover ⊢
  have hlen : (b64Decode text).length = b64DecodedLen text := b64Decode_length hmod
  refine ⟨hlen, ?_⟩
  rw [exec, execB64Dec, ← htextLen, if_neg (not_not.2 hmod), if_neg (not_not.2 hsrc),
    State.memRead_of_valid hsrc, ← htext, b64DecodedLen, if_neg (not_not.2 hdst), if_neg hover, hscan]
  exact State.memWrite_of_valid (by rw [hlen]; exact hdst) _

end Sys2Proof.Machine
end

section
/-! SUPPORT. The ends of a command and of a step: every move answers, a command completes once, and what the host does
to a command in flight (R190 to R197, R202, R209, R210). -/

namespace Sys2Proof.Machine

variable {s t : State}

/-! ## The engine's move -/

theorem exec_answers (i : Instr) (s : State) : ∃ t, exec i s = .next t := by
  rcases exec_cases i s with ⟨e, -, h⟩ | ⟨c, p, d, sd, sv, v, h, -⟩ <;> exact ⟨_, h⟩

theorem engineStep_answers (s : State) : ∃ t, engineStep s = .next t := by
  rcases engineStep_cases s with ⟨-, h⟩ | ⟨w, i, -, -, h⟩ | ⟨w, e, -, -, h⟩ <;> rw [h]
  · exact ⟨_, rfl⟩
  · exact exec_answers i s
  · exact ⟨_, rfl⟩

theorem engineStep_of_idle (h : s.inFlight = none) : engineStep s = .next s := by
  simp only [engineStep, h]

theorem engineStep_of_decoded {w : Word} {i : Instr} (hw : s.inFlight = some w) (hd : decode w = .ok i) :
    engineStep s = exec i s := by
  simp only [engineStep, hw, hd]

/-- The move of a busy engine is a completion, with an error or with success (R194, R195). -/
theorem engineStep_next_cases (hb : s.busy = true) (h : engineStep s = .next t) :
    (∃ e, e ≠ .ok ∧ t = s.failed e) ∨
    ∃ c p d sd sv v, t = (s.written c p d sd sv v).completed v.length := by
  rcases engineStep_cases s with ⟨hn, -⟩ | ⟨w, i, -, -, he⟩ | ⟨w, e, -, -, he⟩
  · simp [State.busy_eq_false.2 hn] at hb
  · rcases exec_next_cases (he.symm.trans h) with hfailed | ⟨c, p, d, sd, sv, v, ht, -⟩
    · exact .inl hfailed
    · exact .inr ⟨c, p, d, sd, sv, v, ht⟩
  · exact .inl ⟨.badCmd, by decide, Host.Outcome.next.inj (h.symm.trans he)⟩

/-- The report of a completion: BUSY 0, DONE 1, and ERR in step with the code. -/
theorem engineStep_reports (hb : s.busy = true) (h : engineStep s = .next t) :
    t.busy = false ∧ t.done = true ∧ (t.err = true ↔ t.errCode ≠ .ok) := by
  rcases engineStep_next_cases hb h with ⟨e, he, rfl⟩ | ⟨c, p, d, sd, sv, v, rfl⟩
  · simp [he]
  · simp

/-- Settles O4: the host and a reset always answer, and so does the engine, since a command reaches only LMEM that it
has checked (`exec_cases`). -/
theorem noStepStops : Obligations.NoStepStops := by
  intro s
  rcases step_cases s with ⟨q, -, h⟩ | ⟨q, -, h⟩ | ⟨q, -, h⟩ | ⟨-, -, h⟩ | ⟨-, -, h⟩ <;> rw [h]
  · exact ⟨_, rfl⟩
  · exact engineStep_answers _
  · exact ⟨_, rfl⟩
  · exact engineStep_answers s
  · exact ⟨_, rfl⟩

/-! ## The host's move, and the command in flight -/

/-- While BUSY = 1 a write to anything but CTRL and STATUS is ignored, or dropped with WBUSY set (R24, R26). -/
theorem State.writeTarget_of_busy (hb : s.busy = true) (v : Word) {r : Target} (hctrl : r ≠ .ctrl)
    (hstatus : r ≠ .status) : s.writeTarget v r = s ∨ s.writeTarget v r = { s with wbusy := true } := by
  cases r with
  | ctrl | status => contradiction
  | id | memSize | resultLen | sponge | digest _ | reserved => exact .inl rfl
  | cmd | srcAddr | srcLen | dstAddr | outLen | kLen | seed _ | state _ | lmem _ =>
    exact .inr (State.droppable_of_busy hb _)

/-- A write to CTRL is a soft reset, or it stores the two control bits (R29). -/
theorem State.writeCtrl_cases (s : State) (v : Word) :
    s.writeCtrl v = s.softReset ∨ s.writeCtrl v = { s with irqEn := v.getLsbD 0, opaqueErr := v.getLsbD 1 } := by
  cases hv : v.getLsbD 31 with
  | true => exact .inl (State.writeCtrl_of_set hv)
  | false => exact .inr (State.writeCtrl_of_clear hv)

/-- While BUSY = 1 a write leaves the command in flight, or it is a soft reset (R26). -/
theorem State.writeTarget_in_flight (hb : s.busy = true) (v : Word) (r : Target) :
    (s.writeTarget v r).inFlight = s.inFlight ∨ s.writeTarget v r = s.softReset := by
  by_cases hctrl : r = .ctrl
  · subst hctrl
    exact (s.writeCtrl_cases v).symm.imp_left fun h => by rw [State.writeTarget, h]
  by_cases hstatus : r = .status
  · subst hstatus
    exact .inl rfl
  rcases State.writeTarget_of_busy hb v hctrl hstatus with h | h <;> rw [h] <;> exact .inl rfl

/-- A droppable write sets no DONE when its effect does not. -/
theorem State.droppable_done (h : (s.droppable t).done = true) (ht : t.done = true → s.done = true) :
    s.done = true := by
  cases hb : s.busy with
  | true => rwa [State.droppable_of_busy hb] at h
  | false => exact ht (by rwa [State.droppable_of_idle hb] at h)

/-- No write of the host sets DONE: only a completion does (R30). -/
theorem State.writeTarget_done (v : Word) (r : Target) (h : (s.writeTarget v r).done = true) : s.done = true := by
  cases r with
  | id | memSize | resultLen | sponge | digest _ | reserved => exact h
  | status => exact (Bool.and_eq_true_iff.1 h).1
  | ctrl =>
    rcases s.writeCtrl_cases v with hv | hv <;> rw [State.writeTarget, hv] at h
    · exact absurd h Bool.false_ne_true
    · exact h
  | cmd => exact State.droppable_done h fun hissue => absurd hissue Bool.false_ne_true
  | srcAddr | srcLen | dstAddr | outLen | kLen | seed _ | state _ | lmem _ => exact State.droppable_done h id

/-- The host's step: nothing, or one access, which is a read or a write with the queue and the answer updated. -/
theorem State.hostStep_cases (s : State) :
    s.hostStep = s ∨ ∃ q r, (∃ n, s.hostStep = ({ s with draws := n }).answered q r) ∨
      ∃ off v, s.hostStep = (s.hostWrite off v).answered q r := by
  unfold State.hostStep
  split
  · exact .inl rfl
  · exact .inr (s.access_cases _ _)

/-- While BUSY = 1 the host's step leaves the command in flight, or it abandons it by a soft reset. -/
theorem State.hostStep_of_busy (hb : s.busy = true) :
    s.hostStep.inFlight = s.inFlight ∨ ∃ q r, s.hostStep = s.softReset.answered q r := by
  obtain h | ⟨q, r, ⟨n, h⟩ | ⟨off, v, h⟩⟩ := s.hostStep_cases <;> rw [h]
  · exact .inl rfl
  · exact .inl rfl
  · rcases State.writeTarget_in_flight hb v (targetAt s.memBytes off.toNat) with hkept | hreset
    · exact .inl hkept
    · exact .inr ⟨q, r, congrArg (·.answered q r) hreset⟩

theorem State.hostStep_done (h : s.hostStep.done = true) : s.done = true := by
  obtain hs | ⟨q, r, ⟨n, hs⟩ | ⟨off, v, hs⟩⟩ := s.hostStep_cases <;> rw [hs] at h
  · exact h
  · exact h
  · exact State.writeTarget_done v _ h

/-! ## Completion -/

/-- A host turn while BUSY = 1: the command stays in flight with DONE 0, or a reset abandons it. -/
theorem State.hostStep_in_flight (hdone : s.done = false) (hb : s.busy = true) :
    (s.hostStep.inFlight = s.inFlight ∧ s.hostStep.done = false) ∨
    (s.hostStep.busy = false ∧ s.hostStep.done = false ∧ s.hostStep = s.hostStep.resetRegs) := by
  have hd : s.hostStep.done = false := Bool.eq_false_iff.2 fun h => by simp [State.hostStep_done h] at hdone
  rcases State.hostStep_of_busy hb with hkept | ⟨q, r, hreset⟩
  · exact .inl ⟨hkept, hd⟩
  · rw [hreset]
    exact .inr ⟨rfl, rfl, rfl⟩

/-- A step while BUSY = 1, by the agent that moves. -/
theorem step_in_flight (hinv : s.Inv) (hb : s.busy = true) (h : step s = .next t) :
    (t.inFlight = s.inFlight ∧ t.done = false) ∨ (t.busy = false ∧ t.done = true) ∨
    (t.busy = false ∧ t.done = false ∧ t = t.resetRegs) := by
  obtain ⟨hdone, -⟩ := hinv.busyFlags hb
  rcases step_cases s with ⟨q, -, hs⟩ | ⟨q, -, hs⟩ | ⟨q, -, hs⟩ | ⟨-, -, hs⟩ | ⟨-, hidle, -⟩
  · obtain rfl := Host.Outcome.next.inj (hs.symm.trans h)
    exact (State.hostStep_in_flight (s := s.withSchedule q) hdone hb).imp_right .inr
  · obtain ⟨hbusy, hd, -⟩ := engineStep_reports (s := s.withSchedule q) hb (hs.symm.trans h)
    exact .inr (.inl ⟨hbusy, hd⟩)
  · obtain rfl := Host.Outcome.next.inj (hs.symm.trans h)
    exact .inr (.inr ⟨rfl, rfl, rfl⟩)
  · obtain ⟨hbusy, hd, -⟩ := engineStep_reports hb (hs.symm.trans h)
    exact .inr (.inl ⟨hbusy, hd⟩)
  · simp [hb] at hidle

/-- A step while BUSY = 0 sets no DONE. -/
theorem step_done_of_idle (hb : s.busy = false) (h : step s = .next t) (ht : t.done = true) : s.done = true := by
  rcases step_cases s with ⟨q, -, hs⟩ | ⟨q, -, hs⟩ | ⟨q, -, hs⟩ | ⟨-, hbusy, -⟩ | ⟨-, -, hs⟩
  · obtain rfl := Host.Outcome.next.inj (hs.symm.trans h)
    exact State.hostStep_done (s := s.withSchedule q) ht
  · rw [engineStep_of_idle (s := s.withSchedule q) (State.busy_eq_false.1 hb)] at hs
    obtain rfl := Host.Outcome.next.inj (hs.symm.trans h)
    exact ht
  · obtain rfl := Host.Outcome.next.inj (hs.symm.trans h)
    exact absurd ht Bool.false_ne_true
  · simp [hb] at hbusy
  · obtain rfl := Host.Outcome.next.inj (hs.symm.trans h)
    exact State.hostStep_done ht

theorem State.hostWrite_ctrl (s : State) (v : Word) : s.hostWrite 0x008#32 v = s.writeCtrl v :=
  State.hostWrite_of_target (r := .ctrl) rfl v

/-- Settles O5: a completion reports once and leaves an idle engine; a soft reset leaves an idle engine with DONE 0; and
the step, agent by agent, while busy and while idle. -/
theorem everyCommandCompletesOnce : Obligations.EveryCommandCompletesOnce := by
  refine ⟨fun s hb => ?completes, fun s v _ hv => ?reset, fun s t => step_in_flight, fun s t => step_done_of_idle⟩
  case completes =>
    obtain ⟨t, ht⟩ := engineStep_answers s
    obtain ⟨hbusy, hdone, herr⟩ := engineStep_reports hb ht
    exact ⟨t, ht, hbusy, hdone, herr, engineStep_of_idle (State.busy_eq_false.1 hbusy)⟩
  case reset =>
    rw [State.hostWrite_ctrl, State.writeCtrl_of_set hv]
    exact ⟨rfl, rfl, engineStep_of_idle rfl⟩

/-! ## The step and the issue (R193, R209, R210) -/

/-- Settles O7: the step by the agent whose turn it is, and the word that `withFetchWord` places. -/
theorem stepRunsTheDecodedCommand : Obligations.StepRunsTheDecodedCommand := by
  refine ⟨fun s w i hw hd => ⟨fun hq => ?unscheduled, fun q hq => ?engine⟩,
    fun s q => ⟨fun hq => ?host, fun hq => ?powerOn, fun hq hn => ?idleEngine⟩,
    fun s hq hn => ?idleBlock, fun s hq => ?noAccess, fun s i => ?placed⟩
  case unscheduled =>
    have hb : s.busy = true := State.busy_eq_true.2 ⟨w, hw⟩
    simp only [step, hq, hb, if_true]
    exact engineStep_of_decoded hw hd
  case engine =>
    simp only [step, hq]
    exact engineStep_of_decoded (s := s.withSchedule q) hw hd
  case host | powerOn =>
    simp only [step, hq]
    rfl
  case idleEngine =>
    simp only [step, hq]
    exact engineStep_of_idle (s := s.withSchedule q) hn
  case idleBlock => simp [step, hq, State.busy_eq_false.2 hn]
  case noAccess => simp only [State.hostStep, hq]
  case placed =>
    have hword : BitVec.ofNat 32 (tableWord 32 (encode i).toNat) = encode i := by
      rw [tableWord, Nat.mod_eq_of_lt (encode i).isLt, BitVec.ofNat_toNat, BitVec.setWidth_eq]
    rw [State.withFetchWord, hword]
    exact engineStep_of_decoded (s := s.issue (encode i)) rfl (decode_encode i)

/-- Settles O11: an idle write issues its word, and a busy one is dropped. -/
theorem cmdWriteIssues : Obligations.CmdWriteIssues := fun _ _ =>
  ⟨fun hb => State.hostWrite_cmd_of_idle hb _, fun hb => State.droppable_of_busy hb _⟩

/-- Settles O34: an access that is not admitted is only answered with a bus error. -/
theorem unadmittedAccessChangesNothing : Obligations.UnadmittedAccessChangesNothing := by
  intro s rest width off v hbad
  have hadm : ¬ admitted width off = true := fun h => by
    rcases hbad with hwidth | hoff
    · simp [admitted_eq_false hwidth] at h
    · exact hoff (aligned_of_admitted h)
  exact ⟨if_neg hadm, if_neg hadm⟩

/-! ## The interrupt (R199) -/

/-- An aligned offset that names r is its offset in the map. -/
theorem toNat_eq_offset {off : Word} {r : Target} (hoff : off.toNat % 4 = 0) (hr : r ≠ .reserved)
    (h : targetAt s.memBytes off.toNat = r) : off.toNat = r.offset := by
  subst h
  exact (offset_targetAt hoff hr).symm

theorem State.irq_of_not_done (h : s.done = false) : s.irq = false := by rw [State.irq, h, Bool.and_false]

theorem State.writeCtrl_irq {v : Word} (hv : v.getLsbD 0 = false) : (s.writeCtrl v).irq = false := by
  rcases s.writeCtrl_cases v with h | h <;> rw [h]
  · rfl
  · rw [State.irq, hv, Bool.false_and]

/-- Settles O30: what sets DONE, what clears it or IRQ_EN, and what touches neither. -/
theorem irqIsEnableAndDone : Obligations.IrqIsEnableAndDone := by
  refine ⟨fun s => rfl, fun s t hb h => ?completion, fun s v hv => ?status, fun s v hv => ?disable,
    fun s v hb => ?issue, fun s => ⟨rfl, rfl⟩, fun s off v hb hoff hctrl hstatus => ?busy⟩
  case completion =>
    rcases engineStep_next_cases hb h with ⟨e, -, rfl⟩ | ⟨c, p, d, sd, sv, v, rfl⟩
    · exact ⟨rfl, Bool.and_true s.irqEn⟩
    · exact ⟨rfl, Bool.and_true s.irqEn⟩
  case status =>
    rw [State.hostWrite_of_target (r := .status) rfl]
    exact State.irq_of_not_done (by simp [State.writeTarget, State.writeStatus, hv])
  case disable =>
    rw [State.hostWrite_ctrl]
    exact State.writeCtrl_irq hv
  case issue =>
    rw [State.hostWrite_cmd_of_idle hb]
    exact State.irq_of_not_done rfl
  case busy =>
    rcases State.writeTarget_of_busy hb v (fun h => hctrl (toNat_eq_offset hoff (by decide) h))
      (fun h => hstatus (toNat_eq_offset hoff (by decide) h)) with h | h <;> rw [State.hostWrite, h]
    rfl

end Sys2Proof.Machine
end

section
/-! SUPPORT. The errors of the commands: precise, decided by the first check that fails, and of the codes that each
command may raise (R191, R195, R196). -/

namespace Sys2Proof.Machine

variable {s t : State}

/-- Settles O12: a completion with ERR is a failure, and a failure changes only its report. -/
theorem errorsArePrecise : Obligations.ErrorsArePrecise := by
  intro s t hb h herr
  rcases engineStep_next_cases hb h with ⟨e, he, rfl⟩ | ⟨c, p, d, sd, sv, v, rfl⟩
  · exact ⟨he, rfl⟩
  · simp at herr

/-! ## Who raises what (R191) -/

/-- The codes a command may raise, row by row of R196. -/
def raisedCodes : Instr → List ErrCode
  | .keccakF | .sha3Init => []
  | .sha3Absorb => [.seq, .srcRange]
  | .sha3Final => [.seq, .dstRange]
  | .sha3Hash | .mgf1 | .b64Enc => [.srcRange, .dstRange, .overlap]
  | .oaepEnc => [.msgTooLong, .noSeed, .srcRange, .dstRange, .overlap]
  | .oaepDec =>
    [.modTooSmall, .srcRange, .dstRange, .overlap, .labelMismatch, .noSeparator, .badSeparator, .decodeFail]
  | .b64Dec => [.b64Len, .srcRange, .dstRange, .overlap, .b64Pad, .b64Char]

/-- A result whose error, if it ends in one, is in L. -/
def RaisesOnly (L : List ErrCode) (r : Result) : Prop := ∀ t, r = .next t → t.err = true → t.errCode ∈ L

namespace RaisesOnly

variable {L : List ErrCode} {r : Result}

theorem raised {e : ErrCode} (he : e ∈ L) : RaisesOnly L (s.raise e) := by
  rintro t ⟨⟩ -
  exact he

theorem completed {n : Nat} : RaisesOnly L (s.complete n) := by
  rintro t ⟨⟩ herr
  simp at herr

/-- A check raises its own error, and the rest of the command what it may. -/
theorem check {e : ErrCode} {p : Prop} [Decidable p] (he : e ∈ L) (h : RaisesOnly L r) :
    RaisesOnly L (if p then s.raise e else r) := by
  by_cases hp : p
  · rw [if_pos hp]; exact raised he
  · rw [if_neg hp]; exact h

theorem memRead {q : Region} {k : List Byte → Result} (h : ∀ b, RaisesOnly L (k b)) :
    RaisesOnly L (s.memRead q k) := by
  by_cases hq : s.valid q
  · rw [State.memRead_of_valid hq]; exact h _
  · rw [State.memRead, if_neg hq]; rintro t ⟨⟩

theorem stored {a n : Nat} {v : List Byte} : RaisesOnly L (s.memWrite a v fun t => t.complete n) := by
  by_cases ha : a + v.length ≤ s.memBytes
  · rw [State.memWrite_of_valid ha]; exact completed
  · rw [State.memWrite, if_neg ha]; rintro t ⟨⟩

theorem exec (i : Instr) (s : State) : RaisesOnly (raisedCodes i) (exec i s) := by
  cases i with
  | keccakF | sha3Init => exact completed
  | sha3Absorb => exact check (by decide) (check (by decide) (memRead fun _ => completed))
  | sha3Final => exact check (by decide) (check (by decide) stored)
  | sha3Hash | mgf1 | b64Enc =>
    exact check (by decide) (check (by decide) (check (by decide) (memRead fun _ => stored)))
  | oaepEnc =>
    exact check (by decide) (check (by decide) (check (by decide) (check (by decide) (check (by decide)
      (memRead fun _ => stored)))))
  | oaepDec =>
    refine check (by decide) (check (by decide) (check (by decide) (check (by decide) (memRead fun em => ?_))))
    split
    · next e he =>
      refine check (by decide) (raised ?_)
      rcases oaepDecode_error he with rfl | rfl | rfl <;> decide
    · exact stored
  | b64Dec =>
    refine check (by decide) (check (by decide) (memRead fun text => check (by decide) (check (by decide) ?_)))
    split
    · next e he =>
      refine raised ?_
      rcases b64Scan_error he with rfl | rfl <;> decide
    · exact stored

end RaisesOnly

/-- Settles O14: the numbers by computation, and each command's own codes looked up in the table. -/
theorem errorCodesAndWhoRaisesThem : Obligations.ErrorCodesAndWhoRaisesThem := by
  refine ⟨by decide, fun e => by cases e <;> decide, fun i s t h herr => ?_⟩
  have hcode : t.errCode ∈ raisedCodes i := RaisesOnly.exec i s t h herr
  revert hcode
  generalize t.errCode = e
  revert e
  cases i <;> decide

/-! ## The first check that fails (R196) -/

section
variable {p : Prop} [Decidable p] {e : ErrCode} {r r' : Result}

theorem check_fails (hp : p) : (if p then s.raise e else r) = .next (s.failed e) := if_pos hp

theorem check_passes (hp : ¬ p) (h : r = r') : (if p then s.raise e else r) = r' := (if_neg hp).trans h

/-- The check of a region passes when the region is valid. -/
theorem check_valid {q : Region} (hq : s.valid q) (h : r = r') : (if ¬ s.valid q then s.raise e else r) = r' :=
  check_passes (not_not.2 hq) h

/-- A read of a valid region goes on with its bytes (R64). -/
theorem read_valid {q : Region} (hq : s.valid q) {k : List Byte → Result}
    (h : k (s.lmem.readBytes q.addr q.len) = r') : s.memRead q k = r' := (State.memRead_of_valid hq k).trans h

/-- MSG_TOO_LONG is checked in ℤ, where K_LEN − 66 may be negative (R150). -/
theorem check_fits (hfits : s.srcLen.toNat + 66 ≤ s.kLen.toNat) (h : r = r') :
    (if (s.srcLen.toNat : Int) > (s.kLen.toNat : Int) - 66 then s.raise e else r) = r' :=
  check_passes (by omega) h

end

/-- OAEP_DEC of a block that does not decode reports the decoder's failure, or DECODE_FAIL in its place (R151). -/
theorem oaepDec_undecoded (hk : 66 ≤ s.kLen.toNat) (hsrc : s.valid s.srcBlock)
    (hdst : s.valid (s.dst (s.kLen.toNat - 66))) (hover : ¬ s.srcBlock.overlaps (s.dst (s.kLen.toNat - 66)))
    {e : ErrCode}
    (he : oaepDecode (s.lmem.readBytes s.srcAddr.toNat s.kLen.toNat) s.kLen.toNat = .error e) :
    exec .oaepDec s = .next (s.failed (if s.opaqueLatched then .decodeFail else e)) := by
  refine check_passes (not_lt.2 hk) (check_valid hsrc (check_valid hdst (check_passes hover (read_valid hsrc ?_))))
  rw [State.srcBlock, he]
  cases s.opaqueLatched <;> rfl

/-- The output length of a text read from LMEM, by the length of the text (R177). -/
theorem b64DecodedLen_readBytes (m : Memory) (a n : Nat) :
    b64DecodedLen (m.readBytes a n) = 3 * n / 4 - b64PadCount (m.readBytes a n) := by
  rw [b64DecodedLen, Memory.readBytes_length]

/-- Settles O13: each command's checks in order, every clause by the checks that pass and the one that fails. -/
theorem firstFailedCheckDecidesTheCode : Obligations.FirstFailedCheckDecidesTheCode := by
  refine fun s => ⟨fun w e hw hd => engineStep_of_illegal hd hw, ⟨_, rfl, rfl⟩, ⟨_, rfl, rfl⟩,
    -- SHA3_ABSORB
    exec_outside_absorb (.inl rfl),
    fun hphase hsrc => check_passes (not_not.2 hphase) (check_fails hsrc),
    -- SHA3_FINAL
    exec_outside_absorb (.inr rfl),
    fun hphase hdst => check_passes (not_not.2 hphase) (check_fails hdst),
    -- SHA3_256
    fun hsrc => check_fails hsrc,
    fun hsrc hdst => check_valid hsrc (check_fails hdst),
    fun hsrc hdst hover => check_valid hsrc (check_valid hdst (check_fails hover)),
    -- MGF1
    fun hsrc => check_fails hsrc,
    fun hsrc hdst => check_valid hsrc (check_fails hdst),
    fun hsrc hdst hover => check_valid hsrc (check_valid hdst (check_fails hover)),
    -- OAEP_ENC
    fun hlong => check_fails (by omega),
    fun hfits hseed => check_fits hfits (check_fails (ne_true_of_eq_false hseed)),
    fun hfits hseed hsrc => check_fits hfits (check_passes (not_not.2 hseed) (check_fails hsrc)),
    fun hfits hseed hsrc hdst =>
      check_fits hfits (check_passes (not_not.2 hseed) (check_valid hsrc (check_fails hdst))),
    fun hfits hseed hsrc hdst hover =>
      check_fits hfits (check_passes (not_not.2 hseed) (check_valid hsrc (check_valid hdst (check_fails hover)))),
    -- OAEP_DEC
    fun hsmall => check_fails hsmall,
    fun hk hsrc => check_passes (not_lt.2 hk) (check_fails hsrc),
    fun hk hsrc hdst => check_passes (not_lt.2 hk) (check_valid hsrc (check_fails hdst)),
    fun hk hsrc hdst hover => check_passes (not_lt.2 hk) (check_valid hsrc (check_valid hdst (check_fails hover))),
    fun hk hsrc hdst hover e he => ⟨oaepDecode_error he, oaepDec_undecoded hk hsrc hdst hover he⟩,
    -- B64_ENC
    fun hsrc => check_fails hsrc,
    fun hsrc hdst => check_valid hsrc (check_fails hdst),
    fun hsrc hdst hover => check_valid hsrc (check_valid hdst (check_fails hover)),
    -- B64_DEC
    fun hmod => check_fails hmod,
    fun hmod hsrc => check_passes (not_not.2 hmod) (check_fails hsrc),
    fun text htext hmod hsrc => ?text⟩
  case text =>
    subst htext
    rw [← b64DecodedLen_readBytes]
    refine ⟨fun hdst => ?_, fun hdst hover => ?_, fun hdst hover e he => ⟨b64Scan_error he, ?_⟩⟩
    · exact check_passes (not_not.2 hmod) (check_valid hsrc (read_valid hsrc (check_fails hdst)))
    · exact check_passes (not_not.2 hmod) (check_valid hsrc (read_valid hsrc (check_valid hdst (check_fails hover))))
    · refine check_passes (not_not.2 hmod) (check_valid hsrc (read_valid hsrc
        (check_valid hdst (check_passes hover ?_))))
      rw [State.src, he]
      rfl

end Sys2Proof.Machine
end

section
/-! SUPPORT. The two resets (R221, R222), and the bound on a command in flight (R226). -/

namespace Sys2Proof.Machine

variable {s t : State}

/-! ## Unspecified bytes -/

theorem State.drawnBytes_getD (s : State) {n i : Nat} (hi : i < n) (d : Byte) :
    (s.drawnBytes n).getD i d = Config.freeByte (s.draws + i) := by
  simp [State.drawnBytes, hi]

/-- The clipped part of a region holds its addresses below MEM_BYTES. -/
theorem State.contains_clipped_iff (s : State) (r : Region) (a : Nat) :
    r.addr ≤ a ∧ a < r.addr + s.clipLen r ↔ r.contains a ∧ a < s.memBytes := by
  rw [State.clipLen]
  omega

/-- A region becomes unspecified byte by byte, as far as it lies in LMEM; every other byte stays. -/
theorem State.scramble_read (hwf : s.lmem.wf) (r : Region) (a : Nat) :
    (s.scramble r).lmem.read a =
      if r.contains a ∧ a < s.memBytes then Config.freeByte (s.draws + (a - r.addr)) else s.lmem.read a := by
  rw [State.scramble_lmem, Memory.read_writeBytes hwf, State.drawnBytes_length]
  by_cases ha : r.addr ≤ a ∧ a < r.addr + s.clipLen r
  · rw [if_pos ha, if_pos ((s.contains_clipped_iff r a).1 ha), s.drawnBytes_getD (by omega)]
  · rw [if_neg ha, if_neg (mt (s.contains_clipped_iff r a).2 ha)]

/-! ## The resets -/

theorem State.resetRegs_ctrlWord (s : State) : s.resetRegs.ctrlWord = 0#32 := by
  simp [State.ctrlWord, State.reset]

theorem State.resetRegs_statusWord (s : State) : s.resetRegs.statusWord = 0#32 := by
  simp [State.statusWord, State.reset, ErrCode.code]

theorem State.abandon_of_idle (hn : s.inFlight = none) : s.abandon = s := by simp only [State.abandon, hn]

theorem State.abandon_of_illegal {w : Word} {e : DecodeError} (hw : s.inFlight = some w) (hd : decode w = .error e) :
    s.abandon = s := by simp only [State.abandon, hw, hd]

theorem State.abandon_of_decoded {w : Word} {i : Instr} (hw : s.inFlight = some w) (hd : decode w = .ok i) :
    s.abandon = s.scramble (s.dest i) := by simp only [State.abandon, hw, hd]

/-- Abandoning a command touches LMEM and the count of draws, and nothing else. -/
theorem State.abandon_eq (s : State) : s.abandon = { s with lmem := s.abandon.lmem, draws := s.abandon.draws } := by
  unfold State.abandon
  split
  · rfl
  · split <;> rfl

@[simp] theorem State.softReset_memBytes (s : State) : s.softReset.memBytes = s.memBytes := by
  rw [State.softReset, State.abandon_eq]
  rfl

@[simp] theorem State.softReset_schedule (s : State) : s.softReset.schedule = s.schedule := by
  rw [State.softReset, State.abandon_eq]
  rfl

@[simp] theorem State.softReset_lmem (s : State) : s.softReset.lmem = s.abandon.lmem := rfl

theorem State.powerOnReset_read (s : State) {a : Nat} (ha : a < s.memBytes) :
    s.powerOnReset.lmem.read a = Config.freeByte (s.draws + a) := by
  rw [State.powerOnReset, State.resetRegs_lmem, Memory.read_writeBytes Memory.wf_nil, State.drawnBytes_length,
    if_pos (by omega), Nat.sub_zero, s.drawnBytes_getD ha]

/-- Settles O41: the registers are those of the reset state, and each byte of LMEM is its own draw. -/
theorem powerOnResetsTheBlock : Obligations.PowerOnResetsTheBlock := by
  intro s q hq
  refine ⟨(s.withSchedule q).powerOnReset, by simp only [step, hq], State.resetRegs_ctrlWord _,
    State.resetRegs_statusWord _, ?registers⟩
  case registers =>
    exact ⟨rfl, rfl, rfl, rfl, rfl, rfl, rfl, rfl, rfl, rfl, rfl, rfl, rfl, rfl, rfl, rfl, rfl, rfl,
      fun a => (s.withSchedule q).powerOnReset_read⟩

/-- Settles O42: the registers are those of the reset state, and LMEM is what abandoning the command leaves, by what is
in flight: nothing, an illegal word or a command. -/
theorem softResetKeepsLmemOutsideTheDestination : Obligations.SoftResetKeepsLmemOutsideTheDestination := by
  refine ⟨fun s v hv hwf => ⟨s.softReset, ?reset, s.softReset_ctrlWord, s.abandon.resetRegs_statusWord,
    rfl, rfl, rfl, rfl, rfl, rfl, rfl, rfl, rfl, rfl, rfl, rfl, rfl, rfl, s.softReset_memBytes, rfl,
    fun hn a => ?idle, fun w e hw hd a => ?illegal, fun w i hw hd a => ?command⟩,
    fun s => ⟨rfl, rfl, rfl, rfl, rfl, rfl, rfl, rfl, rfl, rfl⟩⟩
  case reset => rw [State.hostWrite_ctrl, State.writeCtrl_of_set hv]
  case idle => rw [State.softReset_lmem, State.abandon_of_idle hn]
  case illegal => rw [State.softReset_lmem, State.abandon_of_illegal hw hd]
  case command => rw [State.softReset_lmem, State.abandon_of_decoded hw hd, State.scramble_read hwf]

/-! ## The schedule and the command in flight (R226) -/

theorem State.droppable_schedule (h : t.schedule = s.schedule) : (s.droppable t).schedule = s.schedule := by
  unfold State.droppable
  split
  · rfl
  · exact h

theorem State.writeTarget_schedule (s : State) (v : Word) (r : Target) : (s.writeTarget v r).schedule = s.schedule := by
  cases r with
  | id | memSize | resultLen | sponge | digest _ | reserved | status => rfl
  | ctrl => rcases s.writeCtrl_cases v with h | h <;> simp [State.writeTarget, h]
  | cmd | srcAddr | srcLen | dstAddr | outLen | kLen | seed _ | state _ | lmem _ => exact State.droppable_schedule rfl

theorem State.hostStep_schedule (s : State) : s.hostStep.schedule = s.schedule := by
  obtain h | ⟨q, r, ⟨n, h⟩ | ⟨off, v, h⟩⟩ := s.hostStep_cases <;> rw [h]
  · rfl
  · exact s.writeTarget_schedule v _

theorem engineStep_ends (hb : s.busy = true) : ∃ t, engineStep s = .next t ∧ t.busy = false := by
  obtain ⟨t, ht⟩ := engineStep_answers s
  exact ⟨t, ht, (engineStep_reports hb ht).1⟩

/-- A step while BUSY = 1 ends the command, or it uses up one turn of the schedule. -/
theorem step_ends_or_uses_turn (hb : s.busy = true) :
    ∃ t, step s = .next t ∧ (t.busy = false ∨ ∃ turn, s.schedule = turn :: t.schedule) := by
  rcases step_cases s with ⟨q, hq, hs⟩ | ⟨q, -, hs⟩ | ⟨q, -, hs⟩ | ⟨-, -, hs⟩ | ⟨-, hidle, -⟩
  · exact ⟨_, hs, .inr ⟨.host, by rw [State.hostStep_schedule, State.withSchedule_schedule, hq]⟩⟩
  · obtain ⟨t, ht, hidle⟩ := engineStep_ends (s := s.withSchedule q) hb
    exact ⟨t, hs.trans ht, .inl hidle⟩
  · exact ⟨_, hs, .inl rfl⟩
  · obtain ⟨t, ht, hidle⟩ := engineStep_ends hb
    exact ⟨t, hs.trans ht, .inl hidle⟩
  · simp [hb] at hidle

theorem run_succ_of_step (h : step s = .next t) (n : Nat) :
    Host.Core.run Sys2Proof.core (n + 1) s = Host.Core.run Sys2Proof.core n t := by
  have hcore : Sys2Proof.core.step s = .next t := h
  simp only [Host.Core.run, hcore]

/-- The block is idle within the turns of its schedule and one step more: a step of a busy block ends the command or leaves
a shorter schedule. -/
theorem idle_within_schedule (s : State) : ∃ n t, n ≤ s.schedule.length + 1 ∧
    Host.Core.run Sys2Proof.core n s = .next t ∧ t.busy = false := by
  cases hb : s.busy with
  | false => exact ⟨0, s, Nat.zero_le _, rfl, hb⟩
  | true =>
    obtain ⟨t, ht, hidle | ⟨turn, hturn⟩⟩ := step_ends_or_uses_turn hb
    · exact ⟨1, t, Nat.le_add_left _ _, run_succ_of_step ht 0, hidle⟩
    · have hlen : s.schedule.length = t.schedule.length + 1 := congrArg List.length hturn
      obtain ⟨n, u, hn, hrun, hidle⟩ := idle_within_schedule t
      exact ⟨n + 1, u, by omega, (run_succ_of_step ht n).trans hrun, hidle⟩
termination_by s.schedule.length

/-- Settles O6: a busy block is one case of `idle_within_schedule`. -/
theorem commandEndsWithinTheSchedule : Obligations.CommandEndsWithinTheSchedule := fun s _ => idle_within_schedule s

end Sys2Proof.Machine
end
